-- ==== Sys2Proof/Word.lean ====
section
/-! DEFINITION. The words and the plain data types of the block: interface widths (R10), samples (R9), the
interpolator's state (R8), the SS unit's registers (R21, R22), the FG configuration (R30) and the write
sequencer (R31). Types only: nothing here computes. -/

namespace Sys2Proof

/-- A byte is 8 bits (R10). -/
abbrev Byte := BitVec 8

/-- A command word is 16 bits (R10, R70, R79). -/
abbrev CmdWord := BitVec 16

/-- Lengths, capacities, generated symbols and the `SS.CREATE` operands are 32-bit unsigned integers
(R10, R73). -/
abbrev Word32 := BitVec 32

/-- A sample component. R9 leaves the type OPEN and gives it three members only (`ZERO`, `INV_SQRT2`,
`neg`), which are parameters (`Config.Params`). A scalar is held as the code of a value: which code stands
for which value is the number format's business, and nothing in the model does arithmetic on a code.
[DESIGN CHOICE, log 1: safe for every format with countably many values.] -/
structure Scalar where
  code : Int
deriving DecidableEq, Repr, Inhabited

/-- A complex baseband sample, the pair `(re, im)` of R9. -/
structure Sample where
  re : Scalar
  im : Scalar
deriving DecidableEq, Repr, Inhabited

/-- The interpolator's state `IState` (its delay line), an OPEN type of R8: held as a list of codes, read by
nothing but the parameter `i_exec`. [DESIGN CHOICE, log 1.] -/
structure IState where
  data : List Int
deriving DecidableEq, Repr, Inhabited

/-- `ss.cfg = (M, G, A)`: order, polynomial, seed (R22). `M` is 5 bits (R43); `G` and `A` are `M`-bit values
and come in on 32-bit operand lines (R94), so they are held in 32 bits, the bits from `M` up being 0. -/
structure SsCfg where
  order : BitVec 5
  poly  : Word32
  seed  : Word32
deriving DecidableEq, Repr, Inhabited

/-- The SS unit: the triple latched by `SS.CREATE` (R22) and the shift register `ss.v` (R21; `M` bits, held
in 32, the bits from `M` up being 0). The unit has no other state (R23). -/
structure SsUnit where
  cfg : SsCfg
  v   : Word32
deriving DecidableEq, Repr, Inhabited

/-- `cfg.m` and `cfg.beta` (R30): filter delay in symbols, a natural number (R43), and the excess-bandwidth
factor, opaque to every rule (R6). -/
structure FgCfg where
  m    : Nat
  beta : Rat
deriving DecidableEq, Repr, Inhabited

/-- The phases of a write (R31). -/
inductive Phase where
  | pre
  | pay
  | flush
  | done
deriving DecidableEq, Repr, Inhabited

/-- The write sequencer `seq = (ph, i, j, n)` (R31): phase, symbol index, chip index, next output index. -/
structure WriteSeq where
  ph : Phase
  i  : Nat
  j  : Nat
  n  : Nat
deriving DecidableEq, Repr, Inhabited

end Sys2Proof
end

