-- ==== Sys2Proof/Syntax.lean ====
section
/-! DEFINITION. The eleven operations of the block (R72), one constructor per row of
spec/opcode_table.json, and the two command ports (R71). Operands other than the immediate travel on operand
lines (R73) and stand in the transaction (Machine/State.lean), not in the operation. -/

namespace Sys2Proof

/-- The two command ports of R71. -/
inductive Port where
  | host
  | ss
deriving DecidableEq, Repr, Inhabited

/-- The operations of R72. `hn`, `pn` are `HN = imm[0]`, `PN = imm[1]` (R75a); `k = imm[4:0]` (R75b). -/
inductive Instr where
  | fgConstruct
  | fgTeardown
  | fgAssemble (hn pn : Bool)
  | fgWrite
  | fgGetlen
  | fgCopy
  | fgPrint
  | ssCreate
  | ssReset
  | ssAdvance
  | ssGensym (k : Nat)
deriving DecidableEq, Repr

/-- The port an operation travels on (R72, R83). -/
def Instr.port : Instr → Port
  | .fgConstruct    => .host
  | .fgTeardown     => .host
  | .fgAssemble _ _ => .host
  | .fgWrite        => .host
  | .fgGetlen       => .host
  | .fgCopy         => .host
  | .fgPrint        => .host
  | .ssCreate       => .ss
  | .ssReset        => .ss
  | .ssAdvance      => .ss
  | .ssGensym _     => .ss

/-- The mnemonic of R72. `FG.DISPLAY` is a second spelling of `FG.PRINT` (R81, R154). -/
def Instr.mnemonic : Instr → String
  | .fgConstruct    => "FG.CONSTRUCT"
  | .fgTeardown     => "FG.TEARDOWN"
  | .fgAssemble _ _ => "FG.ASSEMBLE"
  | .fgWrite        => "FG.WRITE"
  | .fgGetlen       => "FG.GETLEN"
  | .fgCopy         => "FG.COPY"
  | .fgPrint        => "FG.PRINT"
  | .ssCreate       => "SS.CREATE"
  | .ssReset        => "SS.RESET"
  | .ssAdvance      => "SS.ADVANCE"
  | .ssGensym _     => "SS.GENSYM"

end Sys2Proof
end

