-- ==== Sys2Proof/WellFormed.lean ====
section
/-! DEFINITION. Which terms of `Instr` an encoding can express. The one bound the types do not carry is
`SS.GENSYM`'s count, a 5-bit field (R75b). -/

namespace Sys2Proof

/-- Well-formed operations: `0 <= k <= 31` for `SS.GENSYM k` (R75b, R97); every other operation always. -/
def Instr.wellFormed : Instr → Bool
  | .fgConstruct    => true
  | .fgTeardown     => true
  | .fgAssemble _ _ => true
  | .fgWrite        => true
  | .fgGetlen       => true
  | .fgCopy         => true
  | .fgPrint        => true
  | .ssCreate       => true
  | .ssReset        => true
  | .ssAdvance      => true
  | .ssGensym k     => decide (k ≤ 31)

end Sys2Proof
end

