-- ==== Sys2Proof/Decode.lean ====
section
/-! DEFINITION. Decoding (R70, R76, R77, R82), total on any command word and either port, and encoding
(R72, R75, R80). -/

namespace Sys2Proof

/-- Why a command word is illegal (R76, R77). The block answers every one of them the same way. -/
inductive Reject where
  /-- No operation of either port has this opcode (R76; opcode 0x00 among them, R77). -/
  | unknownOpcode
  /-- The opcode belongs to the other port (R77). -/
  | wrongPort
  /-- A must-be-zero immediate bit is set (R76). -/
  | reservedImmediate
deriving DecidableEq, Repr

/-- `op = cmd[15:8]` (R70). -/
def opField (cmd : CmdWord) : BitVec 8 := cmd.extractLsb' 8 8

/-- `imm = cmd[7:0]` (R70). -/
def immField (cmd : CmdWord) : BitVec 8 := cmd.extractLsb' 0 8

/-- An operation that uses no immediate bit needs `imm = 0` (R75). -/
def needZeroImm (imm : BitVec 8) (i : Instr) : Except Reject Instr :=
  if imm = 0 then .ok i else .error .reservedImmediate

/-- The host port's arm of R82. -/
def decodeHost (op imm : BitVec 8) : Except Reject Instr :=
  if op = 0x01 then needZeroImm imm .fgConstruct
  else if op = 0x02 then needZeroImm imm .fgTeardown
  else if op = 0x03 then
    if imm.extractLsb' 2 6 = 0 then .ok (.fgAssemble (imm.getLsbD 0) (imm.getLsbD 1))
    else .error .reservedImmediate
  else if op = 0x04 then needZeroImm imm .fgWrite
  else if op = 0x05 then needZeroImm imm .fgGetlen
  else if op = 0x06 then needZeroImm imm .fgCopy
  else if op = 0x07 then needZeroImm imm .fgPrint
  else if op = 0x10 ∨ op = 0x11 ∨ op = 0x12 ∨ op = 0x13 then .error .wrongPort
  else .error .unknownOpcode

/-- The SS port's arm of R82. -/
def decodeSs (op imm : BitVec 8) : Except Reject Instr :=
  if op = 0x10 then needZeroImm imm .ssCreate
  else if op = 0x11 then needZeroImm imm .ssReset
  else if op = 0x12 then needZeroImm imm .ssAdvance
  else if op = 0x13 then
    if imm.extractLsb' 5 3 = 0 then .ok (.ssGensym (imm.extractLsb' 0 5).toNat)
    else .error .reservedImmediate
  else if op = 0x01 ∨ op = 0x02 ∨ op = 0x03 ∨ op = 0x04 ∨ op = 0x05 ∨ op = 0x06 ∨ op = 0x07 then
    .error .wrongPort
  else .error .unknownOpcode

/-- Decoding, R82. -/
def decode (port : Port) (cmd : CmdWord) : Except Reject Instr :=
  match port with
  | .host => decodeHost (opField cmd) (immField cmd)
  | .ss   => decodeSs (opField cmd) (immField cmd)

/-- The opcode column of R72. -/
def Instr.opcode : Instr → BitVec 8
  | .fgConstruct    => 0x01
  | .fgTeardown     => 0x02
  | .fgAssemble _ _ => 0x03
  | .fgWrite        => 0x04
  | .fgGetlen       => 0x05
  | .fgCopy         => 0x06
  | .fgPrint        => 0x07
  | .ssCreate       => 0x10
  | .ssReset        => 0x11
  | .ssAdvance      => 0x12
  | .ssGensym _     => 0x13

/-- The immediate of R75: `PN || HN` for `FG.ASSEMBLE`, `k` for `SS.GENSYM`, 0 for the others. -/
def Instr.immediate : Instr → BitVec 8
  | .fgConstruct      => 0
  | .fgTeardown       => 0
  | .fgAssemble hn pn => BitVec.ofNat 8 (2 * pn.toNat + hn.toNat)
  | .fgWrite          => 0
  | .fgGetlen         => 0
  | .fgCopy           => 0
  | .fgPrint          => 0
  | .ssCreate         => 0
  | .ssReset          => 0
  | .ssAdvance        => 0
  | .ssGensym k       => BitVec.ofNat 8 k

/-- The command word of an operation: `op || imm` (R70, R80). -/
def encode (i : Instr) : CmdWord := i.opcode ++ i.immediate

/-- A row of the opcode map of R72. -/
structure OpcodeRow where
  mnemonic : String
  port     : Port
  mask     : CmdWord
  pattern  : CmdWord
deriving DecidableEq, Repr

/-- The opcode map of R72, row by row: `cmd` selects the row exactly when `cmd & mask = pattern`. -/
def opcodeTable : List OpcodeRow :=
  [⟨"FG.CONSTRUCT", .host, 0xFFFF, 0x0100⟩,
   ⟨"FG.TEARDOWN",  .host, 0xFFFF, 0x0200⟩,
   ⟨"FG.ASSEMBLE",  .host, 0xFFFC, 0x0300⟩,
   ⟨"FG.WRITE",     .host, 0xFFFF, 0x0400⟩,
   ⟨"FG.GETLEN",    .host, 0xFFFF, 0x0500⟩,
   ⟨"FG.COPY",      .host, 0xFFFF, 0x0600⟩,
   ⟨"FG.PRINT",     .host, 0xFFFF, 0x0700⟩,
   ⟨"SS.CREATE",    .ss,   0xFFFF, 0x1000⟩,
   ⟨"SS.RESET",     .ss,   0xFFFF, 0x1100⟩,
   ⟨"SS.ADVANCE",   .ss,   0xFFFF, 0x1200⟩,
   ⟨"SS.GENSYM",    .ss,   0xFFE0, 0x1300⟩]

/-- Whether a command word selects a row on a port (R72). -/
def OpcodeRow.selects (r : OpcodeRow) (port : Port) (cmd : CmdWord) : Bool :=
  decide (r.port = port) && decide (cmd &&& r.mask = r.pattern)

/-- The port a command word is presented on when only the word is given: "the port an operation travels on is
fixed by its opcode range" (R83, R77). [log 15] -/
def portOf (cmd : CmdWord) : Port :=
  if 0x10 ≤ opField cmd ∧ opField cmd ≤ 0x13 then .ss else .host

/-- The command word made of the low `nbits` bits of `w`, bits above them 0 (every command word is 16 bits,
R79). -/
def tableWord (nbits w : Nat) : CmdWord := BitVec.ofNat 16 (w % 2 ^ nbits)

/-- The instruction the decoder reads from a row's bits, presented on the port of its opcode range. -/
def decodeTableWord (nbits w : Nat) : Option Instr :=
  match decode (portOf (tableWord nbits w)) (tableWord nbits w) with
  | .ok i    => some i
  | .error _ => none

end Sys2Proof
end

