-- ==== Sys2Proof/Machine/Lfsr.lean ====
section
/-! DEFINITION. The concrete feedback structure of R93, the default value of the configuration field `Config.Lfsr`
(Config.lean). Nothing but that default refers to `fibonacciOut` and `fibonacciNext`. R93 takes the structure from
general knowledge. [PRESUMED by the spec, log 12] -/

namespace Sys2Proof

/-- The exclusive-or of bits `n-1 .. 0` of `w`. -/
def parityBelow (w : Word32) : Nat → Bool
  | 0 => false
  | n + 1 => w.getLsbD n ^^ parityBelow w n

/-- `parity(w)`: the exclusive-or of all bits (R11). -/
def parity (w : Word32) : Bool := parityBelow w 32

/-- One bit as a 32-bit word, `zext_32` (R12). -/
def bitWord (b : Bool) : Word32 := if b then 1 else 0

/-- The period `P = 2^M - 1` of R92, also the mask of R93. -/
def SsCfg.period (c : SsCfg) : Nat := 2 ^ c.order.toNat - 1

/-- `lfsr_out(v) = parity(v & G)` (R93). -/
def fibonacciOut (c : SsCfg) (v : Word32) : Bool := parity (v &&& c.poly)

/-- `lfsr_next(v) = ((v << 1) | lfsr_out(v)) & (2^M - 1)` (R93). -/
def fibonacciNext (c : SsCfg) (v : Word32) : Word32 :=
  ((v <<< (1 : Nat)) ||| bitWord (fibonacciOut c v)) &&& BitVec.ofNat 32 c.period

end Sys2Proof
end

