-- ==== Sys2Proof/Config.lean ====
section
/-! DEFINITION. What is fixed for one block: the frame constants (R5), the configuration fields with a default
(R6, R93, R143: filter constants, feedback structure, stale-write policy), and the free values the spec
leaves unspecified (R36, R195). -/

namespace Sys2Proof.Config

/-! ### Frame constants (R5), not parameters -/

/-- Preamble symbols. -/
abbrev nPre : Nat := 1024
/-- Header bytes. -/
abbrev nHdr : Nat := 8
/-- Payload bytes. -/
abbrev nPld : Nat := 64
/-- Header and payload concatenated. -/
abbrev nBytes : Nat := 72
/-- Modulated symbols out of the packet encoder. -/
abbrev nSym : Nat := 600
/-- Pilot-bearing symbols out of the pilot inserter. -/
abbrev nPsym : Nat := 630
/-- Spreading factor: chips per pilot-bearing symbol. -/
abbrev sf : Nat := 256
/-- Output samples per interpolator call. -/
abbrev kInterp : Nat := 2
/-- Sequence bits drawn per chip. -/
abbrev chipBits : Nat := 2
/-- Sequence bits drawn for the preamble. -/
abbrev nPreBits : Nat := 2048

/-! ### Configuration fields with a default -/

/-- The feedback structure of the SS unit, the pair `(lfsr_out, lfsr_next)` of R91 for every `ss.cfg`: the
replaceable configuration field of R93 and D5, with R93's structure as its default. [log 12] -/
structure Lfsr where
  out  : SsCfg → Word32 → Bool   := fibonacciOut
  next : SsCfg → Word32 → Word32 := fibonacciNext

/-- The three policies of R143 and R144 for a write without a fresh assemble. -/
inductive StalePolicy where
  | forbid
  | reference
  | autoReset
deriving DecidableEq, Repr

/-- The configuration fields the spec gives a default: the feedback structure (R93), `FILT_DELAY` and `FILT_BETA`
(R6), `STALE_POLICY` (R143, D11). -/
structure Hardware where
  lfsr        : Lfsr        := {}
  filtDelay   : Nat         := 7
  filtBeta    : Rat         := 3 / 10
  stalePolicy : StalePolicy := .forbid

/-- This hardware: every field at its default. The one place where a choice is replaced. -/
def hardware : Hardware := {}

/-- `FILT_DELAY`, the filter delay `m` in symbols (R6). -/
def filtDelay : Nat := hardware.filtDelay

/-- `FILT_BETA`, the excess-bandwidth factor (R6), opaque to every rule. -/
def filtBeta : Rat := hardware.filtBeta

/-- This hardware's decided policy (R143, D11). -/
def stalePolicy : StalePolicy := hardware.stalePolicy

/-! ### Free values -/

/-- One value for every piece of block state that R36 calls unspecified after `FG.TEARDOWN`, and for `seq`,
which R31 calls unspecified outside `FG.WRITE`. -/
structure Unspecified where
  ss    : SsUnit
  pre   : Vector Sample 1024
  ist   : IState
  cfg   : FgCfg
  bytes : Vector Byte 72
  sym   : Vector Sample 600
  psym  : Vector Sample 630
  seq   : WriteSeq
deriving Inhabited

/-- The unspecified values, a fresh set for each number drawn (`State.draws`). [R36, R114; log 3.] -/
opaque unspecified : Nat → Unspecified

/-- What an overrun of a caller's output buffer leaves in the host's byte memory: R195 puts it outside the
model. [log 4.] -/
opaque overrunBytes : Nat → List (Nat × Byte)

/-- What an overrun of a caller's output buffer leaves in the host's sample memory (R195). [log 4.] -/
opaque overrunSamples : Nat → List (Nat × Sample)

end Sys2Proof.Config
end

