-- ==== Sys2Proof/Machine/State.lean ====
section
/-! DEFINITION. The machine's state: every piece of state of R20, the host memory the block reaches (R50), the
command port's transaction and answer (R70), and the model's own bookkeeping fields, marked so. -/

namespace Sys2Proof.Machine

/-- The lifecycle register `fsm` (R29). -/
inductive Lifecycle where
  | dead
  | created
  | assembled
  | streamed
deriving DecidableEq, Repr, Inhabited

/-- The five statuses of R160. -/
inductive Status where
  | ok
  | invalidConfiguration
  | unsupportedOperation
  | bufferTooSmall
  | staleState
deriving DecidableEq, Repr, Inhabited

/-- The answer to a transaction: a status and a 32-bit data word (R70). -/
structure Response where
  status : Status
  data   : Word32
deriving DecidableEq, Repr

/-- A space of host memory: (address, element) pairs, the addresses strictly rising (`Memory.wf`,
Machine/Ops.lean). An address with no pair holds no element the model knows of: it has no value. With
`α = Byte` it is a list of `Host.Cell`. -/
abbrev Memory (α : Type) := List (Nat × α)

/-- One transaction on the command port: the command word and its operand lines (R70, R73). A buffer reference
is the host-memory address of the buffer's element 0, element `i` being at that address plus `i`
[DESIGN CHOICE, log 5]. An operation reads only the lines R73 gives it. -/
structure Txn where
  cmd  : CmdWord
  /-- Reference to the header's 8 bytes (R120), ignored when `HN = 1`. -/
  hdr  : Nat
  /-- Reference to the payload's 64 bytes (R120), ignored when `PN = 1`. -/
  pld  : Nat
  /-- The draw from the random source for this transaction (R123): any 72 bytes. [log 11] -/
  fill : Vector Byte 72
  /-- Reference to the output buffer (R130). -/
  out  : Nat
  /-- How many entries the caller's output buffer really has. No line of the port: the block cannot measure
  it (R130), and only the overrun of R195 depends on it. -/
  outLen : Nat
  /-- The declared capacity, in samples (R130). -/
  cap  : Word32
  /-- The three operands of `SS.CREATE` (R94). -/
  order      : Word32
  polynomial : Word32
  seed       : Word32
deriving DecidableEq, Repr

/-- Why the machine stops with a fault. -/
inductive Fault where
  /-- Raised by `FG.ASSEMBLE` alone, when a present header or payload operand names a host byte that host
  memory does not hold. R120 says that a present operand has exactly its 8 or 64 bytes, so an honest host
  never meets it. Safe: the model stops where no rule gives the byte. [log 6] -/
  | hostByteAbsent
deriving DecidableEq, Repr

/-- Why the machine refuses a transaction. -/
inductive Refusal where
  /-- No meaning yet for the instruction; raised by `exec`'s arms only. Safe. -/
  | notModelled (mnemonic : String)
  /-- Raised by `SS.RESET`, `SS.ADVANCE` and `SS.GENSYM` on an SS unit that has never been created (or whose
  owner was torn down): R101, "A standalone model of the SS unit refuses them". Safe. -/
  | ssNeverCreated
  /-- Raised by `SS.CREATE` when its operands are no legal triple: R94, "a triple that fails the precondition
  is not a configuration of this hardware, and a model refuses to build the instance". Safe. -/
  | illegalSsConfiguration
deriving DecidableEq, Repr

/-- The state of one block, its host memory and its command port. -/
structure State where
  /-- `fsm` (R29). -/
  fsm   : Lifecycle
  /-- `ss.cfg` and `ss.v` (R21, R22). -/
  ss    : SsUnit
  /-- `bytes[0..71]` (R24). -/
  bytes : Vector Byte 72
  /-- `sym[0..599]` (R25). -/
  sym   : Vector Sample 600
  /-- `psym[0..629]` (R26). -/
  psym  : Vector Sample 630
  /-- `pre[0..1023]` (R27). -/
  pre   : Vector Sample 1024
  /-- `ist` (R28). -/
  ist   : IState
  /-- `cfg.m`, `cfg.beta` (R30). -/
  cfg   : FgCfg
  /-- `seq` (R31). -/
  seq   : WriteSeq
  /-- Host memory holding the `hdr` and `pld` buffers (R50), by byte address. -/
  hostBytes   : Memory Byte
  /-- Host memory holding the `out` buffers (R50), by sample address. -/
  hostSamples : Memory Sample
  /-- The command port the issuer has: the host port of a block, or the SS port of an SS unit on its own (R71).
  No transaction names a port and no operation writes this field, so a block's host has no path to its SS port.
  The model's own. [log 13] -/
  port    : Port
  /-- The transaction the block is executing or executed last: its operand lines (R73). -/
  txn     : Txn
  /-- The transactions the issuer has yet to present, oldest first. The model's own: R13's host, one at a
  time. [log 7] -/
  pending : List Txn
  /-- The answer to the last transaction (R70), none before the first. No operation reads it (R32). [log 10] -/
  resp    : Option Response
  /-- The SS unit has been created and not been torn down since. The model's own: R101 tells the two cases
  apart. [log 8] -/
  ssCreated : Bool
  /-- How many sets of unspecified values have been drawn. The model's own. [log 3] -/
  draws   : Nat
deriving DecidableEq, Repr

/-- A transaction with every line 0, for the port before the first transaction. -/
def Txn.idle : Txn where
  cmd := 0
  hdr := 0
  pld := 0
  fill := Vector.replicate 72 0
  out := 0
  outLen := 0
  cap := 0
  order := 0
  polynomial := 0
  seed := 0

/-- Power-on (R190, R36): `fsm = Dead`, and every other piece of the block's state unspecified. The values
below for the unspecified pieces are the model's own zeros [DESIGN CHOICE, log 9: unsafe; no rule reads them,
and no statement rests on them]. The machine is a block, driven
on its host port. Host memory lists nothing, nothing is pending, nothing has been answered. -/
def State.reset : State where
  fsm := .dead
  ss := ⟨⟨0, 0, 0⟩, 0⟩
  bytes := Vector.replicate 72 0
  sym := Vector.replicate 600 ⟨⟨0⟩, ⟨0⟩⟩
  psym := Vector.replicate 630 ⟨⟨0⟩, ⟨0⟩⟩
  pre := Vector.replicate 1024 ⟨⟨0⟩, ⟨0⟩⟩
  ist := ⟨[]⟩
  cfg := ⟨0, 0⟩
  seq := ⟨.pre, 0, 0, 0⟩
  hostBytes := []
  hostSamples := []
  port := .host
  txn := Txn.idle
  pending := []
  resp := none
  ssCreated := false
  draws := 0

end Sys2Proof.Machine
end

