-- ==== Sys2Proof/Machine/Flags.lean ====
section
/-! DEFINITION. Status codes. The block has no status flags, condition codes or predicates (R32): what a
processor manual computes as flags is here the 8-bit status word of one answer (R74, R160) and the 2-bit code
of the lifecycle register (R29). -/

namespace Sys2Proof.Machine

/-- `status[7:0]` (R74, R160). Codes 5 to 255 are never produced. -/
def Status.code : Status → BitVec 8
  | .ok                   => 0
  | .invalidConfiguration => 1
  | .unsupportedOperation => 2
  | .bufferTooSmall       => 3
  | .staleState           => 4

/-- The 2-bit numbering of `fsm` (R29). -/
def Lifecycle.code : Lifecycle → BitVec 2
  | .dead      => 0
  | .created   => 1
  | .assembled => 2
  | .streamed  => 3

/-- Live: constructed and not yet torn down (R15). -/
def Lifecycle.live (f : Lifecycle) : Bool := f != .dead

/-- Stale: live, with no assembled and not yet written frame (R15). -/
def Lifecycle.stale (f : Lifecycle) : Bool := f == .created || f == .streamed

end Sys2Proof.Machine
end

