-- ==== Sys2Proof/Machine/Ops.lean ====
section
/-! DEFINITION. The named operations the meanings share: host memory (R50, R52, R53), answering a transaction
(R70), raising an error (R165), and taking the next transaction from the issuer (R70, R13). -/

namespace Sys2Proof.Machine

/-! ### Host memory -/

/-- Canonical form: the addresses strictly rise. -/
abbrev Memory.wf {α : Type} (m : Memory α) : Prop := m.Pairwise (fun a b => a.1 < b.1)

/-- `MemRead(x, a, 1)` (R12): the element at an address; none where host memory holds none. -/
def Memory.read {α : Type} : Memory α → Nat → Option α
  | [], _ => none
  | (b, x) :: m, a => if a = b then some x else Memory.read m a

/-- `MemWrite(x, a, 1, v)` (R12): the element at an address becomes `v`, every other stays. -/
def Memory.write {α : Type} : Memory α → Nat → α → Memory α
  | [], a, v => [(a, v)]
  | (b, x) :: m, a, v =>
    if a < b then (a, v) :: (b, x) :: m
    else if a = b then (a, v) :: m
    else (b, x) :: Memory.write m a v

/-- Writes in ascending order, one element each, from an address on (R52). -/
def Memory.writeRun {α : Type} : Memory α → Nat → List α → Memory α
  | m, _, [] => m
  | m, a, v :: vs => Memory.writeRun (Memory.write m a v) (a + 1) vs

/-- The memory that holds the pairs of a list, a later pair winning over an earlier one. -/
def Memory.ofPairs {α : Type} (l : List (Nat × α)) : Memory α :=
  l.foldl (fun m p => Memory.write m p.1 p.2) []

/-! ### Answers and errors -/

/-- `return (status, data)` (R12): the answer of the transaction. Nothing else changes. -/
def State.answer (s : State) (st : Status) (d : Word32) : State :=
  { s with resp := some ⟨st, d⟩ }

/-- `raise E` (R12, R165): the operation ends at once, the answer is `(code of E, 0)`, and no state of R20 and
no host memory is written. This is all that taking an exception is on this block: nothing is saved, no mode
changes, control goes nowhere; and there is nothing to return from (R168). -/
def State.raise (s : State) (e : Status) : State := s.answer e 0

/-! ### Taking a transaction -/

/-- The issuer presents a transaction: its command word and operand lines stand on the port (R70), and it is
no longer to come. -/
def State.accept (s : State) (t : Txn) (rest : List Txn) : State :=
  { s with txn := t, pending := rest }

/-- An illegal command word is refused by the block (R76): `(UnsupportedOperation, 0)`, whatever `fsm` is. -/
def State.refuseIllegal (s : State) : State := s.raise .unsupportedOperation

end Sys2Proof.Machine
end

