-- ==== Sys2Proof/Machine/Operands.lean ====
section
/-! DEFINITION. The operand forms of R73: the header and payload buffers with their absent forms (R53, R54,
R120 to R123), the output buffer and its capacity (R130), the length a capacity is held against (R14), and the
immediate's chip rotation index. -/

namespace Sys2Proof.Machine

/-- Byte `k` of the concatenated buffer as `FG.ASSEMBLE` gets it (R54, R121): indices 0 to 7 from the header,
8 to 71 from the payload; where the flag of that operand says absent, byte `k` of the draw (R123). None where
host memory holds no such byte, or past the end. -/
def operandByte (t : Txn) (mem : Memory Byte) (hn pn : Bool) (k : Nat) : Option Byte :=
  if k < 8 then (if hn then t.fill[k]? else mem.read (t.hdr + k))
  else (if pn then t.fill[k]? else mem.read (t.pld + (k - 8)))

/-- The first `n` values of a partial sequence, where all of them exist. -/
def collect {α : Type} (f : Nat → Option α) : (n : Nat) → Option (Vector α n)
  | 0 => some #v[]
  | n + 1 =>
    match collect f n, f n with
    | some v, some x => some (v.push x)
    | _, _ => none

/-- The 72 bytes of `FG.ASSEMBLE` (R121). -/
def operandBytes (t : Txn) (mem : Memory Byte) (hn pn : Bool) : Option (Vector Byte 72) :=
  collect (operandByte t mem hn pn) 72

/-- `T(m) = 1024 + 630*256 + 2*m`, the interpolator calls of one write (R14). -/
def emitCount (m : Nat) : Nat := Config.nPre + Config.nPsym * Config.sf + 2 * m

/-- `L(m) = 2 * T(m)`, the frame length in samples (R14): computed, never stored. -/
def frameLen (m : Nat) : Nat := Config.kInterp * emitCount m

/-- `cap_ok` (R170): the declared capacity holds a frame. -/
def State.capOk (s : State) : Bool := decide (frameLen s.cfg.m ≤ s.txn.cap.toNat)

/-- The rotation index of a chip: the 2-bit symbol that `SS.GENSYM 2` returns (R134). -/
def chipIndex (sym : Word32) : BitVec 2 := sym.extractLsb' 0 2

end Sys2Proof.Machine
end

