-- ==== Sys2Proof/Machine/SsUnit.lean ====
section
/-! DEFINITION. The SS unit: the LFSR's two functions (R91) as this hardware is configured, the legality of
a triple (R7, R92), and the unit's four operations as functions of the unit alone (R94 to R98). The meanings of `SS.*` and of the FG
operations all go through these. -/

namespace Sys2Proof

/-- `lfsr_out(v)` (R91), by the structure this hardware is configured with: R93's unless the field is replaced. -/
def SsCfg.lfsrOut (c : SsCfg) (v : Word32) : Bool := Config.hardware.lfsr.out c v

/-- `lfsr_next(v)` (R91), by the structure this hardware is configured with: R93's unless the field is
replaced. -/
def SsCfg.lfsrNext (c : SsCfg) (v : Word32) : Word32 := Config.hardware.lfsr.next c v

/-- `adv^t(v)`: `lfsr_next` applied `t` times (R91). -/
def SsCfg.adv (c : SsCfg) : Nat → Word32 → Word32
  | 0, v => v
  | t + 1, v => c.lfsrNext (c.adv t v)

/-- The sequence `s[t] = lfsr_out(adv^t(A))` (R91). -/
def SsCfg.seqBit (c : SsCfg) (t : Nat) : Bool := c.lfsrOut (c.adv t c.seed)

/-- The range conditions of R7: `2 <= M <= 31` (31 being the most 5 bits hold), `0 < G < 2^M`,
`0 < A < 2^M`. -/
def SsCfg.inRange (c : SsCfg) : Bool :=
  decide (2 ≤ c.order.toNat) && (decide (0 < c.poly.toNat) && (decide (c.poly.toNat ≤ c.period) &&
    (decide (0 < c.seed.toNat) && decide (c.seed.toNat ≤ c.period))))

/-- Going on from `v`, the register is back at the seed after exactly `n` advances and not before. -/
def SsCfg.firstBackAfter (c : SsCfg) : Nat → Word32 → Bool
  | 0, v => v == c.seed
  | n + 1, v => v != c.seed && c.firstBackAfter n (c.lfsrNext v)

/-- The maximal-length condition of R92, decided as R92 says, "by running `P` steps": `adv^P(A) = A`, and
`adv^t(A) != A` for `0 < t < P`. -/
def SsCfg.maximal (c : SsCfg) : Bool := c.firstBackAfter (c.period - 1) (c.lfsrNext c.seed)

/-- A legal triple (R7, R92, R94). -/
def SsCfg.legal (c : SsCfg) : Bool := c.inRange && c.maximal

/-- The triple of `SS.CREATE`'s three 32-bit operands (R94), where it is legal. -/
def SsCfg.ofOperands (order polynomial seed : Word32) : Option SsCfg :=
  if order.toNat ≤ 31 then
    if (SsCfg.mk (order.setWidth 5) polynomial seed).legal then
      some ⟨order.setWidth 5, polynomial, seed⟩
    else none
  else none

/-- `SS.CREATE` on the unit (R94). -/
def SsUnit.create (c : SsCfg) : SsUnit := ⟨c, c.seed⟩

/-- `SS.RESET` on the unit (R95). -/
def SsUnit.reset (u : SsUnit) : SsUnit := { u with v := u.cfg.seed }

/-- `SS.ADVANCE` on the unit: the bit, and the unit after (R96). -/
def SsUnit.advance (u : SsUnit) : Bool × SsUnit :=
  (u.cfg.lfsrOut u.v, { u with v := u.cfg.lfsrNext u.v })

/-- The loop of `SS.GENSYM` (R97): `k` more bits into the accumulator `sym`, the first drawn ending most
significant (R98). -/
def SsUnit.gather : Nat → Word32 → SsUnit → Word32 × SsUnit
  | 0, sym, u => (sym, u)
  | k + 1, sym, u => SsUnit.gather k ((sym <<< (1 : Nat)) ||| bitWord u.advance.1) u.advance.2

/-- `SS.GENSYM k` on the unit: the symbol, and the unit after (R97). -/
def SsUnit.gensym (k : Nat) (u : SsUnit) : Word32 × SsUnit := SsUnit.gather k 0 u

end Sys2Proof
end

