-- ==== Sys2Proof/Machine/Parameters.lean ====
section
/-! DEFINITION. The OPEN parameters (R7, R8, R9, `92_eei_decisions.md` "Open parameters"). A set of them that breaks a
condition has no instance (R115, R169, D6, D23): the conditions of R7, R92 and R9 are proof fields, R8's lengths are
types, and `Params.instantiate` refuses an illegal triple. -/

namespace Sys2Proof.Config

/-- A triple `(SS_ORDER, SS_POLY, SS_SEED)` with the condition of R7 and R92: no value of this type is illegal. The
default, of test vector V4b, only shows that there is a legal triple; no definition falls back to it. -/
structure LegalTriple where
  cfg   : SsCfg := ⟨2, 3, 1⟩
  legal : cfg.legal = true := by decide
deriving Inhabited

/-- `neg` with its law `neg(neg(x)) = x` (R9). The default only shows that there is an involution. -/
structure Negation where
  map        : Scalar → Scalar := id
  involutive : ∀ x, map (map x) = x := by exact fun _ => rfl
deriving Inhabited

/-- The OPEN members beside the triple: R9's scalars and R8's collaborators. The lengths of R8's contracts are in the
types; that every function is total and deterministic is Lean's. -/
structure OpenMembers where
  zero     : Scalar
  invSqrt2 : Scalar
  negation : Negation
  encode   : Vector Byte 72 → Vector Sample 600
  pilot    : Vector Sample 600 → Vector Sample 630
  iInit    : IState
  iExec    : IState → Sample → IState × Sample × Sample
deriving Inhabited

/-- A legal parameter set: what an instance of the hardware has. -/
structure Params extends OpenMembers where
  triple : LegalTriple
deriving Inhabited

/-- The block's triple (R7). -/
def Params.ss (P : Params) : SsCfg := P.triple.cfg

/-- `neg` (R9). -/
def Params.neg (P : Params) (x : Scalar) : Scalar := P.negation.map x

/-- The triple of three natural numbers, with the condition of R7 and R92 decided; none where it fails. -/
def LegalTriple.ofNumbers (order polynomial seed : Nat) : Option LegalTriple :=
  if h : order ≤ 31 ∧ polynomial < 2 ^ order ∧ seed < 2 ^ order ∧
      (SsCfg.mk (BitVec.ofNat 5 order) (BitVec.ofNat 32 polynomial) (BitVec.ofNat 32 seed)).legal = true then
    some ⟨⟨BitVec.ofNat 5 order, BitVec.ofNat 32 polynomial, BitVec.ofNat 32 seed⟩, h.2.2.2⟩
  else none

/-- Instantiating the model, before any operation runs (R115): none, where the triple is illegal. A set that breaks
R8 or R9 is no argument of this function. -/
def Params.instantiate (order polynomial seed : Nat) (o : OpenMembers) : Option Params :=
  (LegalTriple.ofNumbers order polynomial seed).map fun t => { toOpenMembers := o, triple := t }

/-- This block's parameters: some legal set. No body: nothing can be proved of a value the spec does not give (R8:
"Nothing else may be assumed of them"). [DESIGN CHOICE, log 2] -/
opaque params : Params

end Sys2Proof.Config
end

