-- ==== Sys2Proof/Machine/Assemble.lean ====
section
/-! DEFINITION. `FG.ASSEMBLE` (42_assemble.md). -/

namespace Sys2Proof.Machine

/-- The frame prepared from 72 bytes (R121): the three buffers, then the resets of the interpolator and of the
SS unit. `pre`, `cfg` and `ss.cfg` are not touched. -/
def State.prepare (P : Config.Params) (s : State) (b : Vector Byte 72) : State :=
  { s with
    bytes := b
    sym := P.encode b
    psym := P.pilot (P.encode b)
    ist := P.iInit
    ss := s.ss.reset
    fsm := .assembled }

/-- `FG.ASSEMBLE hdr, pld`, `0x0300 | (PN << 1) | HN` (R121). The liveness check comes before any byte is
read (R126, V16). -/
def execFgAssemble (hn pn : Bool) (s : State) : Host.Outcome State Fault Refusal :=
  if s.fsm.live then
    match operandBytes s.txn s.hostBytes hn pn with
    | some b => .next ((s.prepare Config.params b).answer .ok 0)
    | none   => .fault .hostByteAbsent
  else .next (s.raise .invalidConfiguration)

end Sys2Proof.Machine
end

