-- ==== Sys2Proof/Machine/Samples.lean ====
section
/-! DEFINITION. What the block itself computes with samples: the bit-to-amplitude map, the quarter
turns, and driving the interpolator (R8, R9, R113, R132, R135). No scalar is ever added or multiplied (R9,
R148). -/

namespace Sys2Proof.Config

/-- `bpsk(b)` (R113): bit 1 is `+INV_SQRT2`, bit 0 is `-INV_SQRT2`. -/
def Params.bpsk (P : Params) (b : Bool) : Scalar :=
  if b then P.invSqrt2 else P.neg P.invSqrt2

/-- The zero sample `(ZERO, ZERO)` of R137. -/
def Params.zeroSample (P : Params) : Sample := ⟨P.zero, P.zero⟩

/-- `rot(p, s)`: `s` turned by `p` quarter turns, by the table of R135. -/
def Params.rot (P : Params) (p : BitVec 2) (x : Sample) : Sample :=
  if p = 0 then x
  else if p = 1 then ⟨P.neg x.im, x.re⟩
  else if p = 2 then ⟨P.neg x.re, P.neg x.im⟩
  else ⟨x.im, P.neg x.re⟩

/-- The output samples of `emit` over a list of inputs, in order (R132): two for each interpolator call. -/
def Params.interpOut (P : Params) : IState → List Sample → List Sample
  | _, [] => []
  | q, x :: xs => (P.iExec q x).2.1 :: (P.iExec q x).2.2 :: P.interpOut (P.iExec q x).1 xs

/-- The interpolator's state after the same calls: `i_exec` folded over the inputs (R139). -/
def Params.interpState (P : Params) : IState → List Sample → IState
  | q, [] => q
  | q, x :: xs => P.interpState (P.iExec q x).1 xs

end Sys2Proof.Config
end

