-- ==== Sys2Proof/Machine/Lifecycle.lean ====
section
/-! DEFINITION. `FG.CONSTRUCT` and `FG.TEARDOWN` (41_construct_teardown.md). -/

namespace Sys2Proof.Machine

/-- The preamble symbols of `n` turns of R110's loop from a unit: each draws the in-phase bit, then the
quadrature bit. -/
def preambleSyms (P : Config.Params) : Nat → SsUnit → List Sample
  | 0, _ => []
  | n + 1, u =>
    ⟨P.bpsk u.advance.1, P.bpsk u.advance.2.advance.1⟩ :: preambleSyms P n u.advance.2.advance.2

/-- The unit after `n` turns of the same loop. -/
def afterPreamble : Nat → SsUnit → SsUnit
  | 0, u => u
  | n + 1, u => (afterPreamble n u).advance.2.advance.2

/-- The loop of R110 yields a symbol a turn. -/
theorem preambleSyms_length (P : Config.Params) (n : Nat) (u : SsUnit) :
    (preambleSyms P n u).length = n := by
  induction n generalizing u with
  | zero => rfl
  | succ n ih => simp [preambleSyms, ih]

/-- The 1024-symbol preamble cache (R113), drawn by 2048 advances from a freshly created unit. -/
def preamble (P : Config.Params) : Vector Sample 1024 :=
  ⟨(preambleSyms P 1024 (SsUnit.create P.ss)).toArray, by simp [preambleSyms_length]⟩

/-- The SS unit as construction leaves it: 2048 advances past the seed, not reset (R110). -/
def constructedUnit (P : Config.Params) : SsUnit := afterPreamble 1024 (SsUnit.create P.ss)

/-- What `FG.TEARDOWN` does to the block (R114): `fsm` is `Dead`, and every other piece of its state becomes
unspecified (R36): a fresh set of free values. [log 3] -/
def State.tearDown (s : State) : State :=
  { s with
    fsm := .dead
    ss := (Config.unspecified s.draws).ss
    bytes := (Config.unspecified s.draws).bytes
    sym := (Config.unspecified s.draws).sym
    psym := (Config.unspecified s.draws).psym
    pre := (Config.unspecified s.draws).pre
    ist := (Config.unspecified s.draws).ist
    cfg := (Config.unspecified s.draws).cfg
    seq := (Config.unspecified s.draws).seq
    ssCreated := false
    draws := s.draws + 1 }

/-- What `FG.CONSTRUCT` does to a block that is not live (R110): `bytes`, `sym`, `psym` and `seq` stay as they
are, unspecified. -/
def State.build (P : Config.Params) (s : State) : State :=
  { s with
    fsm := .created
    cfg := ⟨Config.filtDelay, Config.filtBeta⟩
    ist := P.iInit
    ss := constructedUnit P
    pre := preamble P
    ssCreated := true }

/-- `FG.CONSTRUCT` (R110): on a live block, first everything `FG.TEARDOWN` does (R111). It never fails:
its parameters are a legal set by their type (R115). -/
def State.construct (P : Config.Params) (s : State) : State :=
  ((if s.fsm.live then s.tearDown else s).build P).answer .ok 0

/-- `FG.CONSTRUCT`, `0x0100` (R110). -/
def execFgConstruct (s : State) : Host.Outcome State Fault Refusal :=
  .next (s.construct Config.params)

/-- `FG.TEARDOWN`, `0x0200` (R114). -/
def execFgTeardown (s : State) : Host.Outcome State Fault Refusal :=
  if s.fsm.live then .next (s.tearDown.answer .ok 0) else .next (s.raise .invalidConfiguration)

end Sys2Proof.Machine
end

