-- ==== Sys2Proof/Machine/Write.lean ====
section
/-! DEFINITION. `FG.WRITE` (43_write.md) as the loop nest of R132, with the stale-write policies of R143 and
R144, of which this hardware has `forbid`. -/

namespace Sys2Proof.Machine

/-- The interpolator inputs of `n` chips of one pilot-bearing symbol (R134): each draws `SS.GENSYM 2` and
turns the symbol by it. -/
def symbolChips (P : Config.Params) (x : Sample) : Nat → SsUnit → List Sample
  | 0, _ => []
  | n + 1, u =>
    P.rot (chipIndex (u.gensym Config.chipBits).1) x
      :: symbolChips P x n (u.gensym Config.chipBits).2

/-- The SS unit after `n` chip draws. -/
def afterChips : Nat → SsUnit → SsUnit
  | 0, u => u
  | n + 1, u => ((afterChips n u).gensym Config.chipBits).2

/-- The interpolator inputs of the payload phase (R134): the symbols the outer loop, 256 chips of each the
inner one. -/
def payloadInputs (P : Config.Params) : List Sample → SsUnit → List Sample
  | [], _ => []
  | x :: xs, u => symbolChips P x Config.sf u ++ payloadInputs P xs (afterChips Config.sf u)

/-- The SS unit after the payload phase: `630 * 256` chip draws (R134). -/
def afterPayload (u : SsUnit) : SsUnit := afterChips (Config.nPsym * Config.sf) u

/-- The inputs of the flush phase (R137): `2*m` zero samples. -/
def flushInputs (P : Config.Params) (m : Nat) : List Sample := List.replicate (2 * m) P.zeroSample

/-- All interpolator inputs of one write, in order (R132): preamble, payload, flush. -/
def State.frameInputs (P : Config.Params) (s : State) : List Sample :=
  s.pre.toList ++ (payloadInputs P s.psym.toList s.ss ++ flushInputs P s.cfg.m)

/-- The samples one write puts into `out[0 ..]`. -/
def State.frameSamples (P : Config.Params) (s : State) : List Sample :=
  P.interpOut s.ist (s.frameInputs P)

/-- The caller's buffer really has room for the frame that will be written into it. -/
def State.outHolds (s : State) : Bool := decide (frameLen s.cfg.m ≤ s.txn.outLen)

/-- Host sample memory after a write: `MemWrite(out, n, 1, y)` for `n = 0, 1, ...` (R52). Where the caller's
buffer is in truth shorter than the frame (its declared capacity a lie), the entries it has are written, and
the rest of host memory is free: R195 puts it outside the model. [log 4] -/
def State.samplesAfterWrite (P : Config.Params) (s : State) : Memory Sample :=
  if s.outHolds then s.hostSamples.writeRun s.txn.out (s.frameSamples P)
  else (Memory.ofPairs (Config.overrunSamples s.draws)).writeRun s.txn.out
    ((s.frameSamples P).take s.txn.outLen)

/-- Host byte memory after a write: untouched, but free after an overrun (R195). [log 4] -/
def State.bytesAfterWrite (s : State) : Memory Byte :=
  if s.outHolds then s.hostBytes else Memory.ofPairs (Config.overrunBytes s.draws)

/-- The three phases of R132 run to their end from the current `ss.v` and `ist` (R139). `seq` is dead
afterwards, its value unspecified (R31). [log 3] -/
def State.stream (P : Config.Params) (s : State) : State :=
  { s with
    fsm := .streamed
    ss := afterPayload s.ss
    ist := P.interpState s.ist (s.frameInputs P)
    hostSamples := s.samplesAfterWrite P
    hostBytes := s.bytesAfterWrite
    seq := (Config.unspecified s.draws).seq
    draws := s.draws + 1 }

/-- The states of `fsm` a policy calls stale: `Created` under every policy (R145), `Streamed` under `forbid`
(R143), not under the two others (R144). -/
def staleUnder (pol : Config.StalePolicy) (f : Lifecycle) : Bool :=
  match pol with
  | .forbid    => f.stale
  | .reference => f == .created
  | .autoReset => f == .created

/-- The checks of R131, in its order; none where the write may run. -/
def writeError (pol : Config.StalePolicy) (s : State) : Option Status :=
  if s.fsm.live then
    if staleUnder pol s.fsm then some .staleState
    else if s.capOk then none
    else some .bufferTooSmall
  else some .invalidConfiguration

/-- What a policy does before the first phase: `autoReset` resets the interpolator and the SS unit (R144). -/
def State.beforeStream (pol : Config.StalePolicy) (P : Config.Params) (s : State) : State :=
  match pol with
  | .forbid    => s
  | .reference => s
  | .autoReset => { s with ist := P.iInit, ss := s.ss.reset }

/-- A write under a policy: refused before its first `emit`, or run whole (R147). -/
def writeUnder (pol : Config.StalePolicy) (P : Config.Params) (s : State) : State :=
  match writeError pol s with
  | some e => s.raise e
  | none   => ((s.beforeStream pol P).stream P).answer .ok 0

/-- `FG.WRITE out, cap`, `0x0400` (R132), under this hardware's policy (R143). Launch premise of every claim
about its output (D34, R195): the buffer named by `out` has at least `cap` entries. -/
def execFgWrite (s : State) : Host.Outcome State Fault Refusal :=
  .next (writeUnder Config.stalePolicy Config.params s)

end Sys2Proof.Machine
end

