-- ==== Sys2Proof/Machine/Micro.lean ====
section
/-! DEFINITION. The same write as a micro-step machine over the sequencer `seq` (R31, R140): one `emit` a
micro-step. It refines `FG.WRITE` for a reader who wants each `emit`; no other agent acts between micro-steps.
`exec` runs the loop nest of Machine/Write.lean. -/

namespace Sys2Proof.Machine

/-- `seq <- (PRE, 0, 0, 0)`, once the checks of R131 have passed (R140). -/
def State.microStart (s : State) : State := { s with seq := ⟨.pre, 0, 0, 0⟩ }

/-- `emit(x)` (R132) at the sequencer's output index, which `next` moves on. -/
def State.emit (P : Config.Params) (s : State) (x : Sample) (next : WriteSeq) : State :=
  { s with
    ist := (P.iExec s.ist x).1
    hostSamples :=
      (s.hostSamples.write (s.txn.out + s.seq.n) (P.iExec s.ist x).2.1).write
        (s.txn.out + (s.seq.n + 1)) (P.iExec s.ist x).2.2
    seq := next }

/-- The "next `seq`" column of R140, `n+2` included. -/
def nextSeq (m : Nat) (q : WriteSeq) : WriteSeq :=
  match q.ph with
  | .pre =>
    if q.i < 1023 then ⟨.pre, q.i + 1, 0, q.n + 2⟩ else ⟨.pay, 0, 0, q.n + 2⟩
  | .pay =>
    if q.j < 255 then ⟨.pay, q.i, q.j + 1, q.n + 2⟩
    else if q.i < 629 then ⟨.pay, q.i + 1, 0, q.n + 2⟩
    else if 0 < m then ⟨.flush, 0, 0, q.n + 2⟩
    else ⟨.done, 0, 0, q.n + 2⟩
  | .flush =>
    if q.i < 2 * m - 1 then ⟨.flush, q.i + 1, 0, q.n + 2⟩ else ⟨.done, 0, 0, q.n + 2⟩
  | .done => q

/-- The row `DONE` of R140: `fsm <- Streamed`, the answer `(OK, 0)`, and `seq` is dead, its value unspecified
(R31). [log 3] -/
def State.microDone (s : State) : State :=
  { s with
    fsm := .streamed
    seq := (Config.unspecified s.draws).seq
    draws := s.draws + 1 }.answer .ok 0

/-- One micro-step by the table of R140. -/
def State.microStep (P : Config.Params) (s : State) : State :=
  match s.seq.ph with
  | .pre   => s.emit P (s.pre.getD s.seq.i P.zeroSample) (nextSeq s.cfg.m s.seq)
  | .pay   =>
    ({ s with ss := (s.ss.gensym Config.chipBits).2 }).emit P
      (P.rot (chipIndex (s.ss.gensym Config.chipBits).1) (s.psym.getD s.seq.i P.zeroSample))
      (nextSeq s.cfg.m s.seq)
  | .flush => s.emit P P.zeroSample (nextSeq s.cfg.m s.seq)
  | .done  => s.microDone

/-- `n` micro-steps. -/
def microRun (P : Config.Params) : Nat → State → State
  | 0, s => s
  | n + 1, s => (microRun P n s).microStep P

end Sys2Proof.Machine
end

