-- ==== Sys2Proof/Machine/Query.lean ====
section
/-! DEFINITION. `FG.GETLEN`, `FG.COPY`, `FG.PRINT` (44_query_and_misc.md): they change no state but the
answer. -/

namespace Sys2Proof.Machine

/-- `FG.GETLEN`, `0x0500` (R150): `data = L(m)`. -/
def execFgGetlen (s : State) : Host.Outcome State Fault Refusal :=
  if s.fsm.live then .next (s.answer .ok (BitVec.ofNat 32 (frameLen s.cfg.m)))
  else .next (s.raise .invalidConfiguration)

/-- `FG.COPY`, `0x0600` (R152, conflict C1): never completes with `OK`. -/
def execFgCopy (s : State) : Host.Outcome State Fault Refusal :=
  if s.fsm.live then .next (s.raise .unsupportedOperation)
  else .next (s.raise .invalidConfiguration)

/-- `FG.PRINT`, `0x0700` (R153): the diagnostic text goes to a side channel that is not modelled. -/
def execFgPrint (s : State) : Host.Outcome State Fault Refusal :=
  if s.fsm.live then .next (s.answer .ok 0) else .next (s.raise .invalidConfiguration)

end Sys2Proof.Machine
end

