-- ==== Sys2Proof/Machine/Sequence.lean ====
section
/-! DEFINITION. The SS-port operations (40_sequence_source.md). Inside the block only the FG unit issues them
(R71, R100); here they stand for an SS unit driven on its own SS port (`State.port = .ss`, log 13). They always answer `OK` (R181); on a
unit that was never created they have no meaning (R101). -/

namespace Sys2Proof.Machine

/-- `SS.CREATE order, polynomial, seed`, `0x1000` (R94). A triple that is not legal is no configuration of
this hardware: refused (R94, R169). -/
def execSsCreate (s : State) : Host.Outcome State Fault Refusal :=
  match SsCfg.ofOperands s.txn.order s.txn.polynomial s.txn.seed with
  | some c => .next ({ s with ss := SsUnit.create c, ssCreated := true }.answer .ok 0)
  | none   => .refused .illegalSsConfiguration

/-- `SS.RESET`, `0x1100` (R95). -/
def execSsReset (s : State) : Host.Outcome State Fault Refusal :=
  if s.ssCreated then .next ({ s with ss := s.ss.reset }.answer .ok 0)
  else .refused .ssNeverCreated

/-- `SS.ADVANCE`, `0x1200` (R96): the bit in `data[0]`. -/
def execSsAdvance (s : State) : Host.Outcome State Fault Refusal :=
  if s.ssCreated then .next ({ s with ss := s.ss.advance.2 }.answer .ok (bitWord s.ss.advance.1))
  else .refused .ssNeverCreated

/-- `SS.GENSYM k`, `0x1300 | k` (R97). -/
def execSsGensym (k : Nat) (s : State) : Host.Outcome State Fault Refusal :=
  if s.ssCreated then .next ({ s with ss := (s.ss.gensym k).2 }.answer .ok (s.ss.gensym k).1)
  else .refused .ssNeverCreated

end Sys2Proof.Machine
end

