-- ==== Sys2Proof/Machine/Dispatch.lean ====
section
/-! DEFINITION. One arm per operation. -/

namespace Sys2Proof.Machine

def exec (i : Instr) (s : State) : Host.Outcome State Fault Refusal :=
  match i with
  | .fgConstruct => Sys2Proof.Machine.execFgConstruct s
  | .fgTeardown => Sys2Proof.Machine.execFgTeardown s
  | .fgAssemble hn pn => Sys2Proof.Machine.execFgAssemble hn pn s
  | .fgWrite => Sys2Proof.Machine.execFgWrite s
  | .fgGetlen => Sys2Proof.Machine.execFgGetlen s
  | .fgCopy => Sys2Proof.Machine.execFgCopy s
  | .fgPrint => Sys2Proof.Machine.execFgPrint s
  | .ssCreate => Sys2Proof.Machine.execSsCreate s
  | .ssReset => Sys2Proof.Machine.execSsReset s
  | .ssAdvance => Sys2Proof.Machine.execSsAdvance s
  | .ssGensym k => Sys2Proof.Machine.execSsGensym k s

end Sys2Proof.Machine
end

