-- ==== Sys2Proof/Machine/Step.lean ====
section
/-! DEFINITION. One step: one transaction (R13, R70), or nothing while the issuer presents none. -/

namespace Sys2Proof.Machine

/-- One step. The issuer's next transaction is presented on the port the issuer has (R71) and executed to completion (R70, R13); an illegal
command word is refused by the block itself (R76). With no transaction to come the block holds its state
(R177, R202). There is no stored program and nothing is fetched from memory (R63). -/
def step (s : State) : Host.Outcome State Fault Refusal :=
  match s.pending with
  | [] => .next s
  | t :: rest =>
    match decode s.port t.cmd with
    | .ok i    => exec i (s.accept t rest)
    | .error _ => .next (s.accept t rest).refuseIllegal

/-- `s` with the command word made of the low `nbits` bits of `w` as the transaction the next step executes, the
operand lines as they stand on the port; and, that the word's own port be the one driven, the machine that has
it: a block, or an SS unit on its own, by the word's opcode range (R71, R83). [log 15] -/
def State.withFetchWord (s : State) (nbits w : Nat) : State :=
  { s with
    port := portOf (tableWord nbits w)
    pending := { s.txn with cmd := tableWord nbits w } :: s.pending }

end Sys2Proof.Machine
end

