-- ==== Sys2Proof/Safety.lean ====
section
/-! DEFINITION. The terms in which claims speak: the premises on the host (R195, R71), the spec's closed forms
(R92, R113, R136, R141, R142), the lifecycle table (R170), the invariants (R21, R39 to R41, R50), and runs of
several operations. Nothing of the machine depends on this file. -/

namespace Sys2Proof.Machine

/-! ### Runs -/

/-- The state a step or an operation answers, where it answers one. -/
def nextState : Host.Outcome State Fault Refusal → Option State
  | .next s    => some s
  | .fault _   => none
  | .refused _ => none

/-- Operations one after another, stopping at the first fault or refusal, the operand lines left as they
stand. -/
def execAll : List Instr → State → Host.Outcome State Fault Refusal
  | [], s => .next s
  | i :: is, s =>
    match exec i s with
    | .next t    => execAll is t
    | .fault e   => .fault e
    | .refused r => .refused r

/-- The state with another answer on the port: what two states have in common that differ in the answer
only. -/
def State.withResp (s : State) (r : Option Response) : State := { s with resp := r }

/-! ### Premises on the host -/

/-- The launch premise of D34 and R195: the buffer named by `out` has at least `cap` entries. -/
abbrev State.honestCapacity (s : State) : Prop := s.txn.cap.toNat ≤ s.txn.outLen

/-- The machine is a block, driven on its host port (R71), not an SS unit on its own. -/
abbrev State.isBlock (s : State) : Prop := s.port = .host

/-- A present header and payload have their 8 and 64 bytes in host memory (R120). -/
abbrev State.operandsReadable (s : State) (hn pn : Bool) : Prop :=
  (hn = false → ∀ k, k < 8 → (s.hostBytes.read (s.txn.hdr + k)).isSome) ∧
  (pn = false → ∀ k, k < 64 → (s.hostBytes.read (s.txn.pld + k)).isSome)

/-! ### The SS unit's contract -/

/-- The maximal-length condition of R92 in the spec's words: `adv^P(A) = A`, and `adv^t(A) != A` for
`0 < t < P`. -/
def SsMaximal (c : SsCfg) : Prop :=
  c.adv c.period c.seed = c.seed ∧ ∀ t, 0 < t → t < c.period → c.adv t c.seed ≠ c.seed

/-- The precondition of R94 on three 32-bit operands. -/
def SsPrecondition (order polynomial seed : Word32) : Prop :=
  2 ≤ order.toNat ∧ order.toNat ≤ 31 ∧
  0 < polynomial.toNat ∧ polynomial.toNat < 2 ^ order.toNat ∧
  0 < seed.toNat ∧ seed.toNat < 2 ^ order.toNat ∧
  SsMaximal ⟨order.setWidth 5, polynomial, seed⟩

/-- `s[t] * 2^(k-1) + s[t+1] * 2^(k-2) + ... + s[t+k-1]`, the symbol of `k` bits from register value `v` on
(R97, R98). -/
def symbolValue (c : SsCfg) (v : Word32) : Nat → Nat
  | 0 => 0
  | k + 1 => 2 * symbolValue c v k + (c.lfsrOut (c.adv k v)).toNat

/-- How many sequence bits an operation draws (R96, R97). -/
def drawnBits : Instr → Nat
  | .fgConstruct    => 0
  | .fgTeardown     => 0
  | .fgAssemble _ _ => 0
  | .fgWrite        => 0
  | .fgGetlen       => 0
  | .fgCopy         => 0
  | .fgPrint        => 0
  | .ssCreate       => 0
  | .ssReset        => 0
  | .ssAdvance      => 1
  | .ssGensym k     => k

/-- The drawing operations of the SS unit: `SS.ADVANCE`, and `SS.GENSYM` with a legal count. -/
def isDraw : Instr → Bool
  | .fgConstruct    => false
  | .fgTeardown     => false
  | .fgAssemble _ _ => false
  | .fgWrite        => false
  | .fgGetlen       => false
  | .fgCopy         => false
  | .fgPrint        => false
  | .ssCreate       => false
  | .ssReset        => false
  | .ssAdvance      => true
  | .ssGensym k     => decide (k ≤ 31)

/-! ### The frame in closed form -/

/-- `pre[k]` in closed form (R113). -/
def preambleAt (P : Config.Params) (k : Nat) : Sample :=
  ⟨P.bpsk (P.ss.seqBit (2 * k)), P.bpsk (P.ss.seqBit (2 * k + 1))⟩

/-- `p[n] = 2 * s[2n] + s[2n+1]` (R136) as a quarter-turn count, the bits `s` counted from where a unit
stands: from the seed for the first write after an assemble, from further on for R144's later writes. -/
def chipAt (u : SsUnit) (n : Nat) : BitVec 2 :=
  BitVec.ofNat 2
    (2 * (u.cfg.lfsrOut (u.cfg.adv (2 * n) u.v)).toNat + (u.cfg.lfsrOut (u.cfg.adv (2 * n + 1) u.v)).toNat)

/-- The interpolator input stream `X[t]` of R141, the SS unit standing at `u` when the write begins. -/
def inputAt (P : Config.Params) (u : SsUnit) (pre : Vector Sample 1024) (psym : Vector Sample 630)
    (t : Nat) : Sample :=
  if t < 1024 then pre.getD t P.zeroSample
  else if t < 162304 then
    P.rot (chipAt u (t - 1024)) (psym.getD ((t - 1024) / 256) P.zeroSample)
  else P.zeroSample

/-- `X[t]` for a write that begins in state `s`. -/
def State.frameInputAt (P : Config.Params) (s : State) (t : Nat) : Sample :=
  inputAt P s.ss s.pre s.psym t

/-- `J[t]` of R142: the interpolator's state after `t` inputs of a stream. -/
def interpAt (P : Config.Params) (q : IState) (X : Nat → Sample) : Nat → IState
  | 0 => q
  | t + 1 => (P.iExec (interpAt P q X t) (X t)).1

/-- `out[n]` of R142: `y0[t]` at `n = 2t`, `y1[t]` at `n = 2t+1`. -/
def outputAt (P : Config.Params) (q : IState) (X : Nat → Sample) (n : Nat) : Sample :=
  if n % 2 = 0 then (P.iExec (interpAt P q X (n / 2)) (X (n / 2))).2.1
  else (P.iExec (interpAt P q X (n / 2)) (X (n / 2))).2.2

/-! ### The lifecycle table -/

/-- The table of R170: the status and the next `fsm` of a host operation, from a state of `fsm` and whether
the capacity holds a frame. None for an SS operation, which R170 does not list. -/
def lifecycleTable (i : Instr) (capOk : Bool) (f : Lifecycle) : Option (Status × Lifecycle) :=
  match i, f with
  | .fgConstruct, _ => some (.ok, .created)
  | .fgTeardown, .dead => some (.invalidConfiguration, .dead)
  | .fgTeardown, _ => some (.ok, .dead)
  | .fgAssemble _ _, .dead => some (.invalidConfiguration, .dead)
  | .fgAssemble _ _, _ => some (.ok, .assembled)
  | .fgWrite, .dead => some (.invalidConfiguration, .dead)
  | .fgWrite, .created => some (.staleState, .created)
  | .fgWrite, .assembled =>
    if capOk then some (.ok, .streamed) else some (.bufferTooSmall, .assembled)
  | .fgWrite, .streamed => some (.staleState, .streamed)
  | .fgGetlen, .dead => some (.invalidConfiguration, .dead)
  | .fgGetlen, f => some (.ok, f)
  | .fgCopy, .dead => some (.invalidConfiguration, .dead)
  | .fgCopy, f => some (.unsupportedOperation, f)
  | .fgPrint, .dead => some (.invalidConfiguration, .dead)
  | .fgPrint, f => some (.ok, f)
  | .ssCreate, _ => none
  | .ssReset, _ => none
  | .ssAdvance, _ => none
  | .ssGensym _, _ => none

/-! ### Invariants -/

/-- Both spaces of host memory are in canonical form. -/
abbrev State.memoryWf (s : State) : Prop := s.hostBytes.wf ∧ s.hostSamples.wf

/-- R21, of a block's SS unit or of one on its own: once created, the triple is legal and `ss.v` stands on the seed's cycle. -/
def State.ssInv (s : State) : Prop :=
  s.ssCreated = true → s.ss.cfg.legal = true ∧ ∃ n, s.ss.v = s.ss.cfg.adv n s.ss.cfg.seed

/-- R39: what every live block holds. -/
def State.liveInv (P : Config.Params) (s : State) : Prop :=
  s.ssCreated = true ∧ s.pre = preamble P ∧ s.cfg = ⟨Config.filtDelay, Config.filtBeta⟩ ∧
  s.ss.cfg = P.ss ∧ 1 ≤ s.ss.v.toNat ∧ s.ss.v.toNat ≤ P.ss.period

/-- R40: what an assembled block holds. -/
def State.assembledInv (P : Config.Params) (s : State) : Prop :=
  s.ss.v = P.ss.seed ∧ s.ist = P.iInit ∧ s.sym = P.encode s.bytes ∧ s.psym = P.pilot s.sym

/-- R41: what a streamed block holds. -/
def State.streamedInv (P : Config.Params) (s : State) : Prop :=
  s.ss.v = P.ss.adv 322560 P.ss.seed ∧
  s.ist = interpAt P P.iInit (inputAt P (SsUnit.create P.ss) s.pre s.psym) (emitCount s.cfg.m) ∧
  s.sym = P.encode s.bytes ∧ s.psym = P.pilot s.sym

/-- R36, column "after `FG.CONSTRUCT`": a created block's phase. -/
def State.createdInv (P : Config.Params) (s : State) : Prop :=
  s.ss.v = P.ss.adv 2048 P.ss.seed ∧ s.ist = P.iInit

/-- The answer on the port is the status and the data word given. -/
abbrev State.answers (s : State) (st : Status) (d : Word32) : Prop := s.resp = some ⟨st, d⟩

/-- The block's invariant (R36, R39 to R41), for a block, whose SS port its own FG unit alone drives
(R71). -/
def State.inv (s : State) : Prop :=
  s.isBlock ∧
  (s.fsm.live = true → s.liveInv Config.params) ∧
  (s.fsm = .created → s.createdInv Config.params) ∧
  (s.fsm = .assembled → s.assembledInv Config.params) ∧
  (s.fsm = .streamed → s.streamedInv Config.params)

end Sys2Proof.Machine
end

