-- ==== Sys2Proof/Certificates/Slice0/Obligations.lean ====
section
/-! DEFINITION. The statements for the provers. `P` stands for the block's own parameters
(`Config.params`, no body): what is said of them holds for every legal set. A state in a
statement is any state, reached by a run or not, unless a premise says otherwise. -/

open Sys2Proof Sys2Proof.Machine

/-! ### Encoding and decoding -/

/-- Decoding the command word of a well-formed operation, on the operation's own port, gives it back, every
operand at every value the encoding admits (R72, R75, R82). -/
def Obligations.DecodeInvertsEncode : Prop :=
  ∀ i : Instr, i.wellFormed = true → decode i.port (encode i) = .ok i

/-- Each command word stands for at most one operation of a port, and only well-formed ones: what decodes to
`i` is the encoding of `i`, on the port of `i` (R72, R82). -/
def Obligations.EncodeInvertsDecode : Prop :=
  ∀ (p : Port) (cmd : CmdWord) (i : Instr), decode p cmd = .ok i →
    i.wellFormed = true ∧ i.port = p ∧ encode i = cmd

/-- R72: a command word selects a row of the opcode map exactly when `cmd & mask = match`, and the decoder reads
the operation of that row; a word selects at most one row. -/
def Obligations.DecodeFollowsMaskAndMatch : Prop :=
  (∀ (p : Port) (cmd : CmdWord) (i : Instr), decode p cmd = .ok i →
    ∃ r ∈ opcodeTable, r.port = p ∧ cmd &&& r.mask = r.pattern ∧ r.mnemonic = i.mnemonic) ∧
  (∀ (p : Port) (cmd : CmdWord), ∀ r ∈ opcodeTable, r.port = p → cmd &&& r.mask = r.pattern →
    ∃ i, decode p cmd = .ok i ∧ i.mnemonic = r.mnemonic) ∧
  (∀ cmd : CmdWord, ∀ r ∈ opcodeTable, ∀ r' ∈ opcodeTable,
    cmd &&& r.mask = r.pattern → cmd &&& r'.mask = r'.pattern → r = r')

/-- R75: where the immediate goes. `FG.ASSEMBLE` reads `HN = imm[0]` and `PN = imm[1]` and needs `imm[7:2] = 0`;
`SS.GENSYM` reads `k = imm[4:0]`, used as it stands, and needs `imm[7:5] = 0`; every other operation needs
`imm = 0`. -/
def Obligations.ImmediateIsReadByField : Prop :=
  (∀ cmd : CmdWord, opField cmd = 0x03 →
    decode .host cmd =
      if (immField cmd).toNat < 4 then .ok (.fgAssemble (cmd.getLsbD 0) (cmd.getLsbD 1))
      else .error .reservedImmediate) ∧
  (∀ cmd : CmdWord, opField cmd = 0x13 →
    decode .ss cmd =
      if (immField cmd).toNat < 32 then .ok (.ssGensym ((immField cmd).toNat))
      else .error .reservedImmediate) ∧
  (∀ (p : Port) (cmd : CmdWord) (i : Instr), decode p cmd = .ok i →
    opField cmd ≠ 0x03 → opField cmd ≠ 0x13 → immField cmd = 0)

/-- Command words written out from R72 and R80, each decoded to the operation it stands for (test vectors V1). -/
def Obligations.SpecWordsDecode : Prop :=
  decode .host 0x0100 = .ok .fgConstruct ∧ decode .host 0x0302 = .ok (.fgAssemble false true) ∧
  decode .host 0x0400 = .ok .fgWrite ∧ decode .host 0x0500 = .ok .fgGetlen ∧
  decode .ss 0x1000 = .ok .ssCreate ∧ decode .ss 0x131F = .ok (.ssGensym 31) ∧
  decode .host 0x0304 = .error .reservedImmediate ∧ decode .host 0x1302 = .error .wrongPort

/-- R77: an SS opcode on the host port is illegal, an FG opcode on the SS port likewise, whatever the immediate;
opcode 0x00 is illegal on both ports, so an all-zero word is never an operation. -/
def Obligations.OtherPortAndZeroOpcodeAreIllegal : Prop :=
  (∀ cmd : CmdWord, 0x10 ≤ opField cmd → opField cmd ≤ 0x13 → decode .host cmd = .error .wrongPort) ∧
  (∀ cmd : CmdWord, 0x01 ≤ opField cmd → opField cmd ≤ 0x07 → decode .ss cmd = .error .wrongPort) ∧
  (∀ (p : Port) (cmd : CmdWord), opField cmd = 0x00 → decode p cmd = .error .unknownOpcode) ∧
  (∀ p : Port, decode p 0 = .error .unknownOpcode)

/-! ### The step -/

/-- A step presents the issuer's next transaction and runs the operation its command word decodes to, with that
transaction's operand lines on the port and the transaction no longer to come (R13, R70; that the transactions to come
stand in a list is the model's choice, log 7). -/
def Obligations.StepRunsTheDecodedOperation : Prop :=
  ∀ (s : State) (t : Txn) (rest : List Txn) (i : Instr),
    s.pending = t :: rest → decode s.port t.cmd = .ok i →
    step s = exec i { s with txn := t, pending := rest }

/-- R76: a command word that matches no row of R72 on its port is refused by the block: the answer is
`(UnsupportedOperation, 0)`, and no state changes, whatever `fsm` is; and which words those are, port by port. -/
def Obligations.IllegalWordIsRefusedByTheBlock : Prop :=
  (∀ (s : State) (t : Txn) (rest : List Txn), s.pending = t :: rest →
    (∀ r ∈ opcodeTable, r.port = s.port → t.cmd &&& r.mask ≠ r.pattern) →
    step s = .next
      { s with txn := t, pending := rest, resp := some ⟨.unsupportedOperation, 0⟩ }) ∧
  (∀ cmd : CmdWord, (∀ r ∈ opcodeTable, r.port = .host → cmd &&& r.mask ≠ r.pattern) ↔
    (opField cmd < 0x01 ∨ 0x07 < opField cmd) ∨
    (opField cmd = 0x03 ∧ 4 ≤ (immField cmd).toNat) ∨
    (0x01 ≤ opField cmd ∧ opField cmd ≤ 0x07 ∧ opField cmd ≠ 0x03 ∧ immField cmd ≠ 0)) ∧
  (∀ cmd : CmdWord, (∀ r ∈ opcodeTable, r.port = .ss → cmd &&& r.mask ≠ r.pattern) ↔
    (opField cmd < 0x10 ∨ 0x13 < opField cmd) ∨
    (opField cmd = 0x13 ∧ 32 ≤ (immField cmd).toNat) ∨
    (0x10 ≤ opField cmd ∧ opField cmd ≤ 0x12 ∧ immField cmd ≠ 0))

/-- R71, R100: no transaction of a block's host reaches its SS port. An SS opcode is refused there (R77), and a step
that changes the SS unit ran one of the four FG operations that drive it; on an SS unit of its own an FG opcode is
refused, and a step changes nothing but the unit, the port's lines and the answer. No step changes which of the two the
machine is (that it is held in a field, `port`, is the model's choice, log 13). -/
def Obligations.HostHasNoPathToTheSsPort : Prop :=
  (∀ (s : State) (t : Txn) (rest : List Txn), s.port = .host → s.pending = t :: rest →
    0x10 ≤ opField t.cmd → opField t.cmd ≤ 0x13 →
    step s = .next { s with txn := t, pending := rest, resp := some ⟨.unsupportedOperation, 0⟩ }) ∧
  (∀ (s : State) (t : Txn) (rest : List Txn), s.port = .ss → s.pending = t :: rest →
    0x01 ≤ opField t.cmd → opField t.cmd ≤ 0x07 →
    step s = .next { s with txn := t, pending := rest, resp := some ⟨.unsupportedOperation, 0⟩ }) ∧
  (∀ s s' : State, s.port = .host → step s = .next s' → s'.ss ≠ s.ss ∨ s'.ssCreated ≠ s.ssCreated →
    ∃ t rest i, s.pending = t :: rest ∧ decode .host t.cmd = .ok i ∧
      (i = .fgConstruct ∨ i = .fgTeardown ∨ (∃ hn pn, i = .fgAssemble hn pn) ∨ i = .fgWrite)) ∧
  (∀ s s' : State, s.port = .ss → step s = .next s' →
    s' = { s with ss := s'.ss, ssCreated := s'.ssCreated, txn := s'.txn, pending := s'.pending, resp := s'.resp }) ∧
  (∀ s s' : State, step s = .next s' → s'.port = s.port)

/-- With no transaction to come a step changes nothing: the model's choice (log 7), after R177, "The block is
either between operations, holding its state, or executing one". -/
def Obligations.IdleStepHoldsTheState : Prop :=
  ∀ s : State, s.pending = [] → step s = .next s

/-! ### The SS unit -/

/-- R93: the configured feedback structure is the Fibonacci register: the bit out is the parity of the register bits
under the polynomial mask, it goes into bit 0 while the others move up and bit `M-1` is lost; so bit `q` of the register
holds the bit returned `q` advances before the last, and the returned bits obey `c[t] = XOR over the taps q of
c[t-1-q]`. -/
def Obligations.FeedbackIsTheFibonacciRecurrence : Prop :=
  (∀ (c : SsCfg) (v : Word32), c.lfsrOut v =
    (List.range 32).foldl (fun b q => b ^^ (v.getLsbD q && c.poly.getLsbD q)) false) ∧
  (∀ (c : SsCfg) (v : Word32) (q : Nat), (c.lfsrNext v).getLsbD q =
    if q < c.order.toNat then (if q = 0 then c.lfsrOut v else v.getLsbD (q - 1)) else false) ∧
  (∀ (c : SsCfg) (v : Word32) (t q : Nat), q < c.order.toNat → q ≤ t →
    (c.adv (t + 1) v).getLsbD q = c.lfsrOut (c.adv (t - q) v)) ∧
  (∀ (c : SsCfg) (v : Word32) (t : Nat), c.poly.toNat < 2 ^ c.order.toNat → c.order.toNat ≤ t →
    c.lfsrOut (c.adv t v) = (List.range c.order.toNat).foldl
      (fun b q => b ^^ (c.poly.getLsbD q && c.lfsrOut (c.adv (t - 1 - q) v))) false)

/-- R94: with a legal triple on its operand lines `SS.CREATE` latches it, sets the register to the seed, answers
`(OK, 0)` and changes nothing else; with any other it is refused. -/
def Obligations.SsCreateLatchesTheTriple : Prop :=
  ∀ s : State,
    (SsPrecondition s.txn.order s.txn.polynomial s.txn.seed →
      exec .ssCreate s = .next
        { s with
          ss := ⟨⟨s.txn.order.setWidth 5, s.txn.polynomial, s.txn.seed⟩, s.txn.seed⟩
          ssCreated := true
          resp := some ⟨.ok, 0⟩ }) ∧
    (¬ SsPrecondition s.txn.order s.txn.polynomial s.txn.seed →
      exec .ssCreate s = .refused .illegalSsConfiguration)

/-- R95: `SS.RESET` puts the register back to the seed, answers `(OK, 0)` and changes nothing else; two in a row
equal one; the next advance returns `s[0]`. -/
def Obligations.SsResetRewindsToTheSeed : Prop :=
  ∀ s : State, s.ssCreated = true →
    exec .ssReset s = .next
      { s with ss := ⟨s.ss.cfg, s.ss.cfg.seed⟩, resp := some ⟨.ok, 0⟩ } ∧
    execAll [.ssReset, .ssReset] s = exec .ssReset s ∧
    ∃ t, execAll [.ssReset, .ssAdvance] s = .next t ∧ t.answers .ok (bitWord (s.ss.cfg.seqBit 0))

/-- R96: `SS.ADVANCE` returns `lfsr_out` of the register in `data[0]`, moves the register by `lfsr_next`, and
changes nothing else. Standing `t` advances past the seed it returns `s[t]` and leaves `adv^(t+1)(A)`; on a legal
triple the register never becomes 0 and is back at the seed after `P` advances. -/
def Obligations.SsAdvanceReturnsTheNextBit : Prop :=
  ∀ s : State, s.ssCreated = true →
    exec .ssAdvance s = .next
      { s with
        ss := ⟨s.ss.cfg, s.ss.cfg.lfsrNext s.ss.v⟩
        resp := some ⟨.ok, if s.ss.cfg.lfsrOut s.ss.v then 1 else 0⟩ } ∧
    ∀ n, s.ss.v = s.ss.cfg.adv n s.ss.cfg.seed →
      (∃ t, exec .ssAdvance s = .next t ∧
        t.answers .ok (if s.ss.cfg.seqBit n then 1 else 0) ∧
        t.ss.v = s.ss.cfg.adv (n + 1) s.ss.cfg.seed ∧
        (s.ss.cfg.legal = true → t.ss.v ≠ 0 ∧ s.ss.cfg.adv s.ss.cfg.period s.ss.v = s.ss.v))

/-- R97 and R98: `SS.GENSYM k` draws `k` bits, answers them packed with the first drawn most significant, a value
below `2^k`, moves the register `k` advances on, and changes nothing else; `k = 0` draws nothing; `k = 1` is
`SS.ADVANCE`. -/
def Obligations.SsGensymPacksFirstBitHighest : Prop :=
  ∀ (s : State) (k : Nat), s.ssCreated = true → k ≤ 31 →
    (∃ d : Word32,
      exec (.ssGensym k) s = .next
        { s with ss := ⟨s.ss.cfg, s.ss.cfg.adv k s.ss.v⟩, resp := some ⟨.ok, d⟩ } ∧
      d.toNat = symbolValue s.ss.cfg s.ss.v k ∧ d.toNat < 2 ^ k ∧
      ∀ j, j < k → d.getLsbD (k - 1 - j) = s.ss.cfg.lfsrOut (s.ss.cfg.adv j s.ss.v)) ∧
    exec (.ssGensym 0) s = .next { s with resp := some ⟨.ok, 0⟩ } ∧
    exec (.ssGensym 1) s = exec .ssAdvance s

/-- R99: (a) `k` advances move the unit as `SS.GENSYM k` does, and their results are its bits, first drawn
highest; (b) `SS.GENSYM a` then `SS.GENSYM b` answer `x` then `y` where `SS.GENSYM (a+b)` answers `x * 2^b + y`;
(c) after `SS.RESET`, draws of `n` bits in all leave `adv^n(A)`, whatever the split; (d) `adv^(n+P)(A) =
adv^n(A)`. -/
def Obligations.SsDrawsCompose : Prop :=
  (∀ (s : State) (k : Nat), s.ssCreated = true → k ≤ 31 →
    ∃ t u d, execAll (List.replicate k .ssAdvance) s = .next t ∧ exec (.ssGensym k) s = .next u ∧
      t.ss = u.ss ∧ u.answers .ok d ∧
      ∀ j, j < k → ∃ w, execAll (List.replicate (j + 1) .ssAdvance) s = .next w ∧
        w.answers .ok (bitWord (d.getLsbD (k - 1 - j)))) ∧
  (∀ (s : State) (a b : Nat), s.ssCreated = true → a + b ≤ 31 →
    ∃ t u w x y z, exec (.ssGensym a) s = .next t ∧ exec (.ssGensym b) t = .next u ∧
      exec (.ssGensym (a + b)) s = .next w ∧ u.ss = w.ss ∧
      t.answers .ok x ∧ u.answers .ok y ∧ w.answers .ok z ∧
      z.toNat = x.toNat * 2 ^ b + y.toNat) ∧
  (∀ (s : State) (is : List Instr), s.ssCreated = true → (∀ i ∈ is, isDraw i = true) →
    ∃ t, execAll (.ssReset :: is) s = .next t ∧ t.ss.cfg = s.ss.cfg ∧
      t.ss.v = s.ss.cfg.adv ((is.map drawnBits).sum) s.ss.cfg.seed) ∧
  (∀ (c : SsCfg) (n : Nat), c.legal = true → c.adv (n + c.period) c.seed = c.adv n c.seed)

/-- R92 for a legal triple, `P = 2^M - 1`: the register is back at the seed after `P` advances and not before, the
`P` values on the way are all the non-zero `M`-bit values, each once, and `P` is the least period of `s`. -/
def Obligations.MaximalLengthCycle : Prop :=
  ∀ c : SsCfg, c.legal = true →
    c.adv c.period c.seed = c.seed ∧
    (∀ t, 0 < t → t < c.period → c.adv t c.seed ≠ c.seed) ∧
    (∀ t, t < c.period → 0 < (c.adv t c.seed).toNat ∧ (c.adv t c.seed).toNat < 2 ^ c.order.toNat) ∧
    (∀ v : Word32, 0 < v.toNat → v.toNat < 2 ^ c.order.toNat →
      ∃ t, t < c.period ∧ c.adv t c.seed = v ∧ ∀ t', t' < c.period → c.adv t' c.seed = v → t' = t) ∧
    (∀ t, c.seqBit (t + c.period) = c.seqBit t) ∧
    (∀ p, 0 < p → (∀ t, c.seqBit (t + p) = c.seqBit t) → c.period ≤ p)

/-- The parameter sets of the model have exactly the legal triples of R7 and R92 and exactly the involutions of R9:
every one has, and every legal triple and every involution is that of some. -/
def Obligations.ParametersRangeOverTheLegalOnes : Prop :=
  (∀ P : Config.Params, 2 ≤ P.ss.order.toNat ∧ 0 < P.ss.poly.toNat ∧ P.ss.poly.toNat < 2 ^ P.ss.order.toNat ∧
    0 < P.ss.seed.toNat ∧ P.ss.seed.toNat < 2 ^ P.ss.order.toNat ∧ SsMaximal P.ss) ∧
  (∀ c : SsCfg, 2 ≤ c.order.toNat → 0 < c.poly.toNat → c.poly.toNat < 2 ^ c.order.toNat →
    0 < c.seed.toNat → c.seed.toNat < 2 ^ c.order.toNat → SsMaximal c →
    ∃ P : Config.Params, P.ss = c) ∧
  (∀ (P : Config.Params) (x : Scalar), P.neg (P.neg x) = x) ∧
  (∀ f : Scalar → Scalar, (∀ x, f (f x) = x) → ∃ P : Config.Params, ∀ x, P.neg x = f x)

/-- R115, R169: a triple that breaks R7 or R92 is refused when the model is instantiated; a legal one makes a parameter
set with that triple and the members given, and nothing stands in for another. (A member that breaks R8 or R9 has no
term: R8's lengths are types, R9's law a proof field.) -/
def Obligations.IllegalParametersHaveNoInstance : Prop :=
  ∀ (order polynomial seed : Nat) (o : Config.OpenMembers),
    let c : SsCfg := ⟨BitVec.ofNat 5 order, BitVec.ofNat 32 polynomial, BitVec.ofNat 32 seed⟩
    let isLegal := 2 ≤ order ∧ order ≤ 31 ∧ 0 < polynomial ∧ polynomial < 2 ^ order ∧ 0 < seed ∧ seed < 2 ^ order ∧
      SsMaximal c
    (isLegal → ∃ P, Config.Params.instantiate order polynomial seed o = some P ∧ P.ss = c ∧ P.toOpenMembers = o) ∧
    (¬ isLegal → Config.Params.instantiate order polynomial seed o = none)

/-- R101: on a unit that was never created `SS.RESET`, `SS.ADVANCE` and `SS.GENSYM` are refused. (That a unit
was created is recorded in a field of the model's own, log 8.) -/
def Obligations.SsOperationsNeedACreatedUnit : Prop :=
  ∀ s : State, s.ssCreated = false →
    exec .ssReset s = .refused .ssNeverCreated ∧ exec .ssAdvance s = .refused .ssNeverCreated ∧
    ∀ k, exec (.ssGensym k) s = .refused .ssNeverCreated

/-- R181: an SS operation that completes answers `OK`; and it changes the SS unit and the answer only. -/
def Obligations.SsOperationsAnswerOk : Prop :=
  ∀ (i : Instr) (s t : State), i.port = .ss → exec i s = .next t →
    (∃ d, t.answers .ok d) ∧
    t = { s with ss := t.ss, ssCreated := t.ssCreated, resp := t.resp } ∧
    (i ≠ .ssCreate → t.ss.cfg = s.ss.cfg)

/-! ### Construction and teardown -/

/-- R191 with R110, R113: `FG.CONSTRUCT` completes in every state: `fsm = Created`, `cfg = (7, 0.3)`, `ist = I_INIT`, the
SS unit holds the block's triple and stands 2048 advances past the seed, `pre[k]` is `(bpsk(s[2k]),
bpsk(s[2k+1]))`, the answer is `(OK, 0)`; host memory and the port are untouched. -/
def Obligations.ConstructBuildsTheBlock : Prop :=
  ∀ s : State, ∃ t, exec .fgConstruct s = .next t ∧
    t.fsm = .created ∧ t.cfg = ⟨7, 3 / 10⟩ ∧ t.ist = Config.params.iInit ∧ t.ssCreated = true ∧
    t.ss = ⟨Config.params.ss, Config.params.ss.adv 2048 Config.params.ss.seed⟩ ∧
    (∀ k (h : k < 1024), t.pre[k] = preambleAt Config.params k) ∧
    t.answers .ok 0 ∧
    t.hostBytes = s.hostBytes ∧ t.hostSamples = s.hostSamples ∧ t.txn = s.txn ∧ t.pending = s.pending

/-- R38's write set: constructing a block that is not live leaves `bytes`, `sym` and `psym` as they are. (Their
contents are unspecified either way, R36; that no fresh values are drawn for them here is the model's choice,
log 3.) -/
def Obligations.ConstructLeavesTheFrameBuffers : Prop :=
  ∀ s : State, s.fsm = .dead → ∃ t, exec .fgConstruct s = .next t ∧
    t.bytes = s.bytes ∧ t.sym = s.sym ∧ t.psym = s.psym

/-- R111: `FG.CONSTRUCT` on a live block has exactly the effect of `FG.TEARDOWN` followed by `FG.CONSTRUCT`, and
ends in `Created` with status `OK`. -/
def Obligations.ConstructOnALiveBlockRebuilds : Prop :=
  ∀ s : State, s.fsm ≠ .dead →
    execAll [.fgTeardown, .fgConstruct] s = exec .fgConstruct s ∧
    ∃ t, exec .fgConstruct s = .next t ∧ t.fsm = .created ∧ t.answers .ok 0

/-- R114: `FG.TEARDOWN` on a live block ends in `Dead` with `(OK, 0)`, host memory and the port untouched (of the
rest of the block nothing is said: it is unspecified); on a dead block it answers `InvalidConfiguration` and
changes nothing; after it every host operation but `FG.CONSTRUCT` answers `InvalidConfiguration`. Its word is
`0x0200`. -/
def Obligations.TeardownEndsDead : Prop :=
  decode .host 0x0200 = .ok .fgTeardown ∧ ∀ s : State,
    (s.fsm ≠ .dead → ∃ t, exec .fgTeardown s = .next t ∧ t.fsm = .dead ∧ t.answers .ok 0 ∧
      t.hostBytes = s.hostBytes ∧ t.hostSamples = s.hostSamples ∧ t.txn = s.txn ∧ t.pending = s.pending ∧
      ∀ i : Instr, i.port = .host → i ≠ .fgConstruct →
        exec i t = .next { t with resp := some ⟨.invalidConfiguration, 0⟩ }) ∧
    (s.fsm = .dead →
      exec .fgTeardown s = .next { s with resp := some ⟨.invalidConfiguration, 0⟩ })

/-- R27: no operation but `FG.CONSTRUCT` changes `pre` (after `FG.TEARDOWN` it is unspecified, R36); and every
construction makes the same one (R116). -/
def Obligations.PreambleIsConstructionsAlone : Prop :=
  (∀ (i : Instr) (s t : State), i ≠ .fgConstruct → i ≠ .fgTeardown → exec i s = .next t → t.pre = s.pre) ∧
  (∀ s₁ s₂ t₁ t₂ : State, exec .fgConstruct s₁ = .next t₁ → exec .fgConstruct s₂ = .next t₂ →
    t₁.pre = t₂.pre)

/-! ### Assemble -/

/-- R121 with R54, R122, R123: on a live block whose present operands host memory holds, `FG.ASSEMBLE` completes
with `(OK, 0)`: `bytes[k]` is the header's byte `k` (or the draw's, where the header is absent), `bytes[8+k]` the
payload's byte `k` (or byte `8+k` of the draw), `sym = encode(bytes)`, `psym = pilot(sym)`, `ist = I_INIT`,
`ss.v = A`, `fsm = Assembled`, and nothing else changes. On a dead block it answers `InvalidConfiguration` and
changes nothing. Its word is `0x0300 | (PN << 1) | HN`. -/
def Obligations.AssemblePreparesTheFrame : Prop :=
  (∀ hn pn : Bool, decode .host (BitVec.ofNat 16 (0x0300 + 2 * pn.toNat + hn.toNat)) =
    .ok (.fgAssemble hn pn)) ∧
  (∀ (s : State) (hn pn : Bool), s.fsm = .dead →
    exec (.fgAssemble hn pn) s = .next { s with resp := some ⟨.invalidConfiguration, 0⟩ }) ∧
  ∀ (s : State) (hn pn : Bool), s.fsm ≠ .dead → s.operandsReadable hn pn →
    ∃ b : Vector Byte 72,
      (∀ k (h : k < 8), if hn then b[k] = s.txn.fill[k]
        else s.hostBytes.read (s.txn.hdr + k) = some b[k]) ∧
      (∀ k (h : k < 64), if pn then b[8 + k] = s.txn.fill[8 + k]
        else s.hostBytes.read (s.txn.pld + k) = some b[8 + k]) ∧
      exec (.fgAssemble hn pn) s = .next
        { s with
          bytes := b
          sym := Config.params.encode b
          psym := Config.params.pilot (Config.params.encode b)
          ist := Config.params.iInit
          ss := ⟨s.ss.cfg, s.ss.cfg.seed⟩
          fsm := .assembled
          resp := some ⟨.ok, 0⟩ }

/-- `FG.ASSEMBLE` faults exactly when the block is live and host memory lacks a byte of a present operand: the
model's choice (log 6), R120 giving every present operand its bytes. -/
def Obligations.AssembleFaultsOnlyOnAMissingByte : Prop :=
  ∀ (s : State) (hn pn : Bool),
    exec (.fgAssemble hn pn) s = .fault .hostByteAbsent ↔
      s.fsm ≠ .dead ∧ ¬ s.operandsReadable hn pn

/-- R125: what `FG.ASSEMBLE` leaves depends only on its operands, on the draw, and on the construction-time state
(`pre`, `cfg`, `ss.cfg`), not on the assembles and writes before it. -/
def Obligations.AssembleForgetsThePast : Prop :=
  ∀ (s₁ s₂ t₁ : State) (hn pn : Bool), s₁.fsm ≠ .dead → s₂.fsm ≠ .dead →
    s₁.txn = s₂.txn → s₁.hostBytes = s₂.hostBytes →
    s₁.pre = s₂.pre → s₁.cfg = s₂.cfg → s₁.ss.cfg = s₂.ss.cfg →
    exec (.fgAssemble hn pn) s₁ = .next t₁ →
    ∃ t₂, exec (.fgAssemble hn pn) s₂ = .next t₂ ∧
      t₂.fsm = t₁.fsm ∧ t₂.ss = t₁.ss ∧ t₂.bytes = t₁.bytes ∧ t₂.sym = t₁.sym ∧ t₂.psym = t₁.psym ∧
      t₂.pre = t₁.pre ∧ t₂.ist = t₁.ist ∧ t₂.cfg = t₁.cfg ∧ t₂.resp = t₁.resp

/-! ### Write -/

/-- R131: the checks of `FG.WRITE`, in their order. A refused write changes nothing but the answer. -/
def Obligations.WriteChecksInOrder : Prop :=
  ∀ s : State,
    (s.fsm = .dead → exec .fgWrite s = .next { s with resp := some ⟨.invalidConfiguration, 0⟩ }) ∧
    (s.fsm = .created ∨ s.fsm = .streamed →
      exec .fgWrite s = .next { s with resp := some ⟨.staleState, 0⟩ }) ∧
    (s.fsm = .assembled → s.txn.cap.toNat < 2 * (1024 + 630 * 256 + 2 * s.cfg.m) →
      exec .fgWrite s = .next { s with resp := some ⟨.bufferTooSmall, 0⟩ })

/-- R132, R139: an assembled block with a large enough capacity, honestly declared (D34), writes its frame:
`(OK, 0)`, `fsm = Streamed`, `ss.v` 322560 advances on, `ist` the fold of `i_exec` over the `T(m)` inputs of R141;
`pre`, `bytes`, `sym`, `psym`, `cfg`, `ss.cfg`, the port and every host byte are as before, and so is every host
sample outside `out[0 .. L-1]`. -/
def Obligations.WriteRunsWhole : Prop :=
  ∀ s : State, s.fsm = .assembled → 2 * (1024 + 630 * 256 + 2 * s.cfg.m) ≤ s.txn.cap.toNat →
    s.honestCapacity →
    ∃ t, exec .fgWrite s = .next t ∧ t.fsm = .streamed ∧ t.answers .ok 0 ∧
      t.ss = ⟨s.ss.cfg, s.ss.cfg.adv 322560 s.ss.v⟩ ∧
      t.ist = interpAt Config.params s.ist (s.frameInputAt Config.params)
        (1024 + 630 * 256 + 2 * s.cfg.m) ∧
      t.pre = s.pre ∧ t.bytes = s.bytes ∧ t.sym = s.sym ∧ t.psym = s.psym ∧ t.cfg = s.cfg ∧
      t.ssCreated = s.ssCreated ∧ t.txn = s.txn ∧ t.pending = s.pending ∧ t.hostBytes = s.hostBytes ∧
      ∀ a, (a < s.txn.out ∨ s.txn.out + 2 * (1024 + 630 * 256 + 2 * s.cfg.m) ≤ a) →
        t.hostSamples.read a = s.hostSamples.read a

/-- R141, R142: the samples a write puts out, in closed form: `out[2t] = y0[t]`, `out[2t+1] = y1[t]` for
`0 <= t < T(m)`, the interpolator run over the input stream `X`. -/
def Obligations.WriteOutputIsTheClosedForm : Prop :=
  ∀ s t : State, s.fsm = .assembled → 2 * (1024 + 630 * 256 + 2 * s.cfg.m) ≤ s.txn.cap.toNat →
    s.honestCapacity → exec .fgWrite s = .next t →
    ∀ n, n < 2 * (1024 + 630 * 256 + 2 * s.cfg.m) →
      t.hostSamples.read (s.txn.out + n) =
        some (outputAt Config.params s.ist (s.frameInputAt Config.params) n)

/-- R140: the micro-step machine over `seq` agrees with the write. From `(PRE, 0, 0, 0)`, `n = 2t` after every
micro-step `t`, the phase and indices are those of R140, and after `T(m)` micro-steps the phase is `DONE` with
`n = L(m)` and host memory, `ss.v` and `ist` are what `FG.WRITE` leaves; the last micro-step, of the row `DONE`, makes
of that the whole state `FG.WRITE` leaves: `fsm = Streamed`, the answer `(OK, 0)`, `seq` dead (unspecified, log 3), and
every other piece alike. -/
def Obligations.MicroStepsRefineTheWrite : Prop :=
  ∀ s t : State, s.fsm = .assembled → s.capOk = true → s.honestCapacity → exec .fgWrite s = .next t →
    (∀ k, k ≤ emitCount s.cfg.m →
      (microRun Config.params k s.microStart).seq =
        if k < 1024 then ⟨.pre, k, 0, 2 * k⟩
        else if k < 162304 then ⟨.pay, (k - 1024) / 256, (k - 1024) % 256, 2 * k⟩
        else if k < emitCount s.cfg.m then ⟨.flush, k - 162304, 0, 2 * k⟩
        else ⟨.done, 0, 0, 2 * k⟩) ∧
    (microRun Config.params (emitCount s.cfg.m) s.microStart).hostSamples = t.hostSamples ∧
    (microRun Config.params (emitCount s.cfg.m) s.microStart).ss = t.ss ∧
    (microRun Config.params (emitCount s.cfg.m) s.microStart).ist = t.ist ∧
    t.fsm = .streamed ∧ t.answers .ok 0 ∧
    microRun Config.params (emitCount s.cfg.m + 1) s.microStart = t

/-- R133: the first 2048 output samples do not depend on header and payload: two assembled blocks in their clean
phase, with the same preamble, put out the same ones, whatever `bytes`, `sym` and `psym` hold. -/
def Obligations.FirstSamplesIgnoreThePayload : Prop :=
  ∀ s₁ s₂ t₁ t₂ : State, s₁.fsm = .assembled → s₂.fsm = .assembled →
    s₁.capOk = true → s₂.capOk = true → s₁.honestCapacity → s₂.honestCapacity →
    s₁.ist = Config.params.iInit → s₂.ist = Config.params.iInit → s₁.pre = s₂.pre →
    exec .fgWrite s₁ = .next t₁ → exec .fgWrite s₂ = .next t₂ →
    ∀ n, n < 2048 → (t₁.hostSamples.read (s₁.txn.out + n)).isSome = true ∧
      t₁.hostSamples.read (s₁.txn.out + n) = t₂.hostSamples.read (s₂.txn.out + n)

/-- R146: below `L(m)` (so with capacity 0 always) a capacity is refused with nothing changed, and the host may
retry: with any other capacity and buffer the write then does what it would have done in the first place; `L(m)` and
everything above it is accepted, and (honestly declared, D34) the entries from `L(m)` on are untouched. -/
def Obligations.ShortCapacityMayBeRetried : Prop :=
  ∀ (s : State) (t' : Txn), s.fsm = .assembled →
    (s.txn.cap.toNat < frameLen s.cfg.m →
      ∃ t, exec .fgWrite s = .next t ∧ t = { s with resp := some ⟨.bufferTooSmall, 0⟩ } ∧
        exec .fgWrite { t with txn := t' } = exec .fgWrite { s with txn := t' }) ∧
    (frameLen s.cfg.m ≤ t'.cap.toNat →
      ∃ u, exec .fgWrite { s with txn := t' } = .next u ∧ u.fsm = .streamed ∧ u.answers .ok 0 ∧
        (t'.cap.toNat ≤ t'.outLen →
          ∀ n, frameLen s.cfg.m ≤ n → u.hostSamples.read (t'.out + n) = s.hostSamples.read (t'.out + n))) ∧
    0 < frameLen s.cfg.m

/-- A host that declares more than its buffer holds (R195). The block goes on as if the capacity were honest: the
answer, `fsm`, `ss` and `ist` are those of the frame. What the overrun does to host memory R195 and U14 put outside
the model: that the buffer's own entries hold the frame's first samples is the model's choice (log 4), and of the
rest of host memory nothing is said. -/
def Obligations.OverrunLeavesTheBlockAsUsual : Prop :=
  ∀ s : State, s.fsm = .assembled → s.capOk = true → s.txn.outLen < frameLen s.cfg.m →
    ∃ t, exec .fgWrite s = .next t ∧ t.fsm = .streamed ∧ t.answers .ok 0 ∧
      t.ss = ⟨s.ss.cfg, s.ss.cfg.adv 322560 s.ss.v⟩ ∧
      t.ist = interpAt Config.params s.ist (s.frameInputAt Config.params) (emitCount s.cfg.m) ∧
      t.pre = s.pre ∧ t.bytes = s.bytes ∧ t.sym = s.sym ∧ t.psym = s.psym ∧ t.cfg = s.cfg ∧
      ∀ n, n < s.txn.outLen →
        t.hostSamples.read (s.txn.out + n) =
          some (outputAt Config.params s.ist (s.frameInputAt Config.params) n)

/-- R142, the Determinism property: two blocks with the same parameters, constructed afresh and given the same
explicit header and payload bytes, put out identical samples, wherever the buffers lie and whatever the two
blocks held before. -/
def Obligations.ConstructAssembleWriteIsDeterministic : Prop :=
  ∀ s₁ s₂ : State,
    (∀ k, k < 8 → (s₁.hostBytes.read (s₁.txn.hdr + k)).isSome = true ∧
      s₁.hostBytes.read (s₁.txn.hdr + k) = s₂.hostBytes.read (s₂.txn.hdr + k)) →
    (∀ k, k < 64 → (s₁.hostBytes.read (s₁.txn.pld + k)).isSome = true ∧
      s₁.hostBytes.read (s₁.txn.pld + k) = s₂.hostBytes.read (s₂.txn.pld + k)) →
    324636 ≤ s₁.txn.cap.toNat → s₁.honestCapacity → 324636 ≤ s₂.txn.cap.toNat → s₂.honestCapacity →
    ∃ t₁ t₂, execAll [.fgConstruct, .fgAssemble false false, .fgWrite] s₁ = .next t₁ ∧
      execAll [.fgConstruct, .fgAssemble false false, .fgWrite] s₂ = .next t₂ ∧
      ∀ n, n < 324636 → (t₁.hostSamples.read (s₁.txn.out + n)).isSome = true ∧
        t₁.hostSamples.read (s₁.txn.out + n) = t₂.hostSamples.read (s₂.txn.out + n)

/-- R142, the Reset-discipline property: two consecutive assemble and write pairs on one block, with identical
operands, put out identical samples. -/
def Obligations.RepeatedAssembleWriteRepeatsTheFrame : Prop :=
  ∀ (s : State) (hn pn : Bool), s.fsm ≠ .dead → s.operandsReadable hn pn → s.capOk = true → s.honestCapacity →
    ∃ t u, execAll [.fgAssemble hn pn, .fgWrite] s = .next t ∧
      execAll [.fgAssemble hn pn, .fgWrite] t = .next u ∧
      ∀ n, n < frameLen s.cfg.m → (t.hostSamples.read (s.txn.out + n)).isSome = true ∧
        u.hostSamples.read (s.txn.out + n) = t.hostSamples.read (s.txn.out + n)

/-- R144, the two policies that are NOT this hardware's: under `REFERENCE` a write in `Streamed` runs from the
current `ss.v` and `ist`; under `AUTO_RESET` every write begins from the seed and `I_INIT`. -/
def Obligations.OtherStalePoliciesRunFromTheirPhase : Prop :=
  ∀ (P : Config.Params) (s : State), s.fsm = .assembled ∨ s.fsm = .streamed → s.capOk = true → s.honestCapacity →
    (∀ n, n < frameLen s.cfg.m →
      (writeUnder .reference P s).hostSamples.read (s.txn.out + n) =
        some (outputAt P s.ist (inputAt P s.ss s.pre s.psym) n)) ∧
    (writeUnder .reference P s).ss.v = s.ss.cfg.adv 322560 s.ss.v ∧
    (∀ n, n < frameLen s.cfg.m →
      (writeUnder .autoReset P s).hostSamples.read (s.txn.out + n) =
        some (outputAt P P.iInit (inputAt P ⟨s.ss.cfg, s.ss.cfg.seed⟩ s.pre s.psym) n)) ∧
    (writeUnder .autoReset P s).ss.v = s.ss.cfg.adv 322560 s.ss.cfg.seed

/-- R135: the four rows of the rotation table, and `rot(p, rot(q, s)) = rot((p + q) mod 4, s)`. -/
def Obligations.RotationsAreQuarterTurns : Prop :=
  ∀ (P : Config.Params) (x : Sample),
    P.rot 0 x = x ∧ P.rot 1 x = ⟨P.neg x.im, x.re⟩ ∧ P.rot 2 x = ⟨P.neg x.re, P.neg x.im⟩ ∧
    P.rot 3 x = ⟨x.im, P.neg x.re⟩ ∧
    ∀ p q : BitVec 2, P.rot p (P.rot q x) = P.rot (p + q) x

/-! ### Queries -/

/-- R150: `FG.GETLEN` answers `2 * (1024 + 630*256 + 2*m)` on a live block, `InvalidConfiguration` on a dead one,
and writes nothing; for `m = 7` the answer is 324636. Its word is `0x0500`. -/
def Obligations.GetlenAnswersTheFrameLength : Prop :=
  decode .host 0x0500 = .ok .fgGetlen ∧ ∀ s : State,
    (s.fsm ≠ .dead → exec .fgGetlen s = .next
      { s with resp := some ⟨.ok, BitVec.ofNat 32 (2 * (1024 + 630 * 256 + 2 * s.cfg.m))⟩ }) ∧
    (s.fsm ≠ .dead → s.cfg.m = 7 → exec .fgGetlen s = .next { s with resp := some ⟨.ok, 324636⟩ }) ∧
    (s.fsm = .dead → exec .fgGetlen s = .next { s with resp := some ⟨.invalidConfiguration, 0⟩ })

/-- R151: the length is the smallest capacity `FG.WRITE` accepts (`m` below `2^29`, where R155 says no
wrap-around occurs), and assembles and writes do not change it. -/
def Obligations.LengthIsTheSmallestAcceptedCapacity : Prop :=
  (∀ s : State, s.fsm = .assembled → s.cfg.m < 2 ^ 29 →
    ∃ t u d, exec .fgGetlen s = .next t ∧ t.answers .ok d ∧ exec .fgWrite s = .next u ∧
      (u.answers .ok 0 ↔ d.toNat ≤ s.txn.cap.toNat)) ∧
  (∀ (i : Instr) (s t : State), i ≠ .fgConstruct → i ≠ .fgTeardown → exec i s = .next t → t.cfg = s.cfg)

/-- R152: `FG.COPY` never succeeds and never changes state: `UnsupportedOperation` on a live block,
`InvalidConfiguration` on a dead one. Its word is `0x0600`. -/
def Obligations.CopyNeverSucceeds : Prop :=
  decode .host 0x0600 = .ok .fgCopy ∧ ∀ s : State,
    (s.fsm ≠ .dead → exec .fgCopy s = .next { s with resp := some ⟨.unsupportedOperation, 0⟩ }) ∧
    (s.fsm = .dead → exec .fgCopy s = .next { s with resp := some ⟨.invalidConfiguration, 0⟩ })

/-- R153: `FG.PRINT` is a no-op that answers `OK` on a live block, `InvalidConfiguration` on a dead one. Its word is
`0x0700`. -/
def Obligations.PrintChangesNothing : Prop :=
  decode .host 0x0700 = .ok .fgPrint ∧ ∀ s : State,
    (s.fsm ≠ .dead → exec .fgPrint s = .next { s with resp := some ⟨.ok, 0⟩ }) ∧
    (s.fsm = .dead → exec .fgPrint s = .next { s with resp := some ⟨.invalidConfiguration, 0⟩ })

/-- R156: the three operations affect nothing later: after one of them, every run of one or more operations goes
exactly as it would have gone without it, answers, outputs and stops included. -/
def Obligations.QueriesDoNotAffectLaterOperations : Prop :=
  ∀ (q : Instr) (s : State), q = .fgGetlen ∨ q = .fgCopy ∨ q = .fgPrint →
    ∃ t, exec q s = .next t ∧ ∀ (i : Instr) (is : List Instr), execAll (i :: is) t = execAll (i :: is) s

/-! ### Errors, the lifecycle, the whole machine -/

/-- R165: an operation that answers an error status answers data 0 and has written nothing: no state, no host
memory, `fsm` as it was. -/
def Obligations.ErrorsLeaveNoTrace : Prop :=
  ∀ (i : Instr) (s t : State) (r : Response), exec i s = .next t → t.resp = some r → r.status ≠ .ok →
    r.data = 0 ∧ t = { s with resp := some r }

/-- R170: the complete transition table of `fsm`: the status and the next state of every host operation from every
state; and an illegal command word answers `UnsupportedOperation` and keeps the state. -/
def Obligations.LifecycleTableHolds : Prop :=
  (∀ (i : Instr) (s : State), i.port = .host →
    (∀ hn pn, i = .fgAssemble hn pn → s.operandsReadable hn pn) →
    ∃ t st d, lifecycleTable i s.capOk s.fsm = some (st, t.fsm) ∧ exec i s = .next t ∧ t.answers st d) ∧
  (∀ (s : State) (u : Txn) (rest : List Txn) (e : Reject), s.pending = u :: rest →
    decode s.port u.cmd = .error e →
    ∃ t, step s = .next t ∧ t.fsm = s.fsm ∧ t.answers .unsupportedOperation 0)

/-- R171: from `Dead` only `FG.CONSTRUCT` succeeds; `Created` is reached from every state by `FG.CONSTRUCT`,
`Assembled` from every live one by `FG.ASSEMBLE`, `Streamed` from `Assembled` by a successful `FG.WRITE`, and it is
entered in no other way. -/
def Obligations.LifecycleReachability : Prop :=
  (∀ (i : Instr) (s t : State) (d : Word32), i.port = .host → s.fsm = .dead → exec i s = .next t →
    t.answers .ok d → i = .fgConstruct) ∧
  (∀ s : State, ∃ t, exec .fgConstruct s = .next t ∧ t.fsm = .created) ∧
  (∀ (s : State) (hn pn : Bool), s.fsm ≠ .dead → s.operandsReadable hn pn →
    ∃ t, exec (.fgAssemble hn pn) s = .next t ∧ t.fsm = .assembled) ∧
  (∀ s : State, s.fsm = .assembled → s.capOk = true → ∃ t, exec .fgWrite s = .next t ∧ t.fsm = .streamed) ∧
  (∀ (i : Instr) (s t : State), exec i s = .next t → t.fsm = .streamed →
    (i = .fgWrite ∧ s.fsm = .assembled) ∨ s.fsm = .streamed)

/-- R52, R53: of all operations only `FG.WRITE` writes host samples, and, the capacity honestly declared (D34), no
operation writes a host byte. -/
def Obligations.OnlyWriteWritesHostMemory : Prop :=
  ∀ (i : Instr) (s t : State), exec i s = .next t →
    (i ≠ .fgWrite → t.hostSamples = s.hostSamples ∧ t.hostBytes = s.hostBytes) ∧
    (s.honestCapacity → t.hostBytes = s.hostBytes)

/-! ### Invariants -/

/-- R36, R39, R40, R41: every step of a block keeps the block's invariant, whatever the host presents: in every live state `pre`, `cfg`, `ss.cfg` are construction's and `ss.v` lies in `1 .. 2^M - 1`; in
`Assembled` the clean phase and `sym = encode(bytes)`, `psym = pilot(sym)`; in `Streamed` the phase the write
left. -/
def Obligations.EveryStepKeepsTheBlockInvariant : Prop :=
  ∀ s s' : State, s.inv → step s = .next s' → s'.inv

/-- R21: in a block and in an SS unit of its own, every step keeps the SS unit on its seed's cycle once created, and there the register
lies in `1 .. 2^M - 1`. -/
def Obligations.EveryStepKeepsTheSsCycle : Prop :=
  (∀ s s' : State, s.ssInv → step s = .next s' → s'.ssInv) ∧
  (∀ s : State, s.ssInv → s.ssCreated = true → 1 ≤ s.ss.v.toNat ∧ s.ss.v.toNat ≤ 2 ^ s.ss.cfg.order.toNat - 1)

/-- Both spaces of host memory stay in canonical form (the model's form of R50's spaces, log 6), whatever the
transaction, an overrun included. -/
def Obligations.EveryStepKeepsMemoryCanonical : Prop :=
  ∀ s s' : State, s.memoryWf → step s = .next s' → s'.memoryWf

/-- R190: at power-on the block is dead, and the invariants hold there whatever the host's memory holds and whatever
transactions are to come. (Of the unspecified pieces nothing is said.) -/
def Obligations.ResetMeetsTheInvariants : Prop :=
  ∀ (script : List Txn) (hb : Memory Byte) (hs : Memory Sample),
    hb.wf → hs.wf →
    let s := { State.reset with pending := script, hostBytes := hb, hostSamples := hs }
    s.fsm = .dead ∧ s.inv ∧ s.ssInv ∧ s.memoryWf
end

