-- ==== Sys2Proof/Laws/Memory.lean ====
section
/-! SUPPORT. Host memory: a read after a write, a run of writes, and the canonical form. -/

namespace Sys2Proof.Machine

variable {α : Type}

@[simp] theorem Memory.read_nil (a : Nat) : Memory.read ([] : Memory α) a = none := rfl

@[simp] theorem Memory.writeRun_nil (m : Memory α) (a : Nat) : m.writeRun a [] = m := rfl

@[simp] theorem Memory.writeRun_cons (m : Memory α) (a : Nat) (v : α) (vs : List α) :
    m.writeRun a (v :: vs) = (m.write a v).writeRun (a + 1) vs := rfl

/-- A read after a write: the written element at its address, every other address as before. -/
theorem Memory.read_write (m : Memory α) (a b : Nat) (v : α) :
    (m.write a v).read b = if b = a then some v else m.read b := by
  induction m with
  | nil => simp [Memory.write, Memory.read]
  | cons p m ih =>
    obtain ⟨c, x⟩ := p
    unfold Memory.write
    split
    · simp [Memory.read]
    · split
      · subst_vars
        simp only [Memory.read]
        split <;> rfl
      · simp only [Memory.read, ih]
        split <;> split <;> simp_all

@[simp] theorem Memory.read_write_same (m : Memory α) (a : Nat) (v : α) :
    (m.write a v).read a = some v := by simp [Memory.read_write]

theorem Memory.read_write_other (m : Memory α) {a b : Nat} (v : α) (h : b ≠ a) :
    (m.write a v).read b = m.read b := by simp [Memory.read_write, h]

/-- Where the elements of a written memory stand. -/
theorem Memory.mem_write {m : Memory α} {a : Nat} {v : α} {p : Nat × α} (h : p ∈ m.write a v) :
    p = (a, v) ∨ p ∈ m := by
  induction m with
  | nil => simpa [Memory.write] using h
  | cons q m ih =>
    obtain ⟨c, x⟩ := q
    unfold Memory.write at h
    split at h
    · simpa using h
    · split at h
      · rcases List.mem_cons.1 h with h | h
        · exact .inl h
        · exact .inr (List.mem_cons_of_mem _ h)
      · rcases List.mem_cons.1 h with h | h
        · exact .inr (h ▸ List.mem_cons_self)
        · exact (ih h).imp id (List.mem_cons_of_mem _)

/-- A write keeps the canonical form. -/
theorem Memory.wf_write {m : Memory α} (a : Nat) (v : α) (h : m.wf) : (m.write a v).wf := by
  induction m with
  | nil => simp [Memory.write, Memory.wf]
  | cons q m ih =>
    obtain ⟨c, x⟩ := q
    obtain ⟨hq, hm⟩ := List.pairwise_cons.1 h
    unfold Memory.write
    split
    · rename_i hlt
      refine List.pairwise_cons.2 ⟨fun p hp => ?_, h⟩
      rcases List.mem_cons.1 hp with rfl | hp
      · exact hlt
      · exact Nat.lt_trans hlt (hq p hp)
    · split
      · rename_i heq
        subst heq
        exact List.pairwise_cons.2 ⟨hq, hm⟩
      · refine List.pairwise_cons.2 ⟨fun p hp => ?_, ih hm⟩
        rcases Memory.mem_write hp with rfl | hp
        · show c < a
          omega
        · exact hq p hp

/-- A run of writes keeps the canonical form. -/
theorem Memory.wf_writeRun {m : Memory α} (a : Nat) (l : List α) (h : m.wf) :
    (m.writeRun a l).wf := by
  induction l generalizing m a with
  | nil => exact h
  | cons v l ih => exact ih (a + 1) (Memory.wf_write a v h)

/-- `Memory.ofPairs` yields the canonical form. -/
theorem Memory.wf_ofPairs (l : List (Nat × α)) : (Memory.ofPairs l).wf := by
  have key : ∀ (l : List (Nat × α)) (m : Memory α), m.wf →
      (l.foldl (fun m p => Memory.write m p.1 p.2) m).wf := by
    intro l
    induction l with
    | nil => exact fun _ h => h
    | cons p l ih => exact fun m h => ih _ (Memory.wf_write p.1 p.2 h)
  exact key l [] List.Pairwise.nil

/-- A run of writes from `a` puts element `n` of its list at `a + n`, and leaves every address outside the run
as it was. -/
theorem Memory.read_writeRun (m : Memory α) (a : Nat) (l : List α) (b : Nat) :
    (m.writeRun a l).read b = if a ≤ b ∧ b < a + l.length then l[b - a]? else m.read b := by
  induction l generalizing m a with
  | nil =>
    rw [if_neg (by simp only [List.length_nil]; omega)]
    rfl
  | cons v l ih =>
    rw [Memory.writeRun_cons, ih, Memory.read_write]
    by_cases hb : b = a
    · subst hb
      rw [if_neg (by omega), if_pos rfl, if_pos (by simp)]
      simp
    · by_cases hin : a + 1 ≤ b ∧ b < a + 1 + l.length
      · rw [if_pos hin, if_pos (by simp only [List.length_cons]; omega)]
        obtain ⟨k, rfl⟩ : ∃ k, b = a + 1 + k := ⟨b - (a + 1), by omega⟩
        simp [show a + 1 + k - (a + 1) = k by omega, show a + 1 + k - a = k + 1 by omega]
      · rw [if_neg hin, if_neg hb, if_neg (by simp only [List.length_cons]; omega)]

/-- An address outside a run of writes. -/
theorem Memory.read_writeRun_outside (m : Memory α) {a b : Nat} (l : List α)
    (h : ¬ (a ≤ b ∧ b < a + l.length)) : (m.writeRun a l).read b = m.read b := by
  rw [Memory.read_writeRun, if_neg h]

end Sys2Proof.Machine
end

