-- ==== Sys2Proof/Laws/Operands.lean ====
section
/-! SUPPORT. The operand forms: what `collect` and `operandBytes` can answer, and the frame length. -/

namespace Sys2Proof.Machine

/-- All `collect` can do: it answers a vector exactly when the partial sequence has each of the first `n`
values, and then it holds them. -/
theorem collect_eq_some {α : Type} {f : Nat → Option α} {n : Nat} {v : Vector α n} :
    collect f n = some v ↔ ∀ k (h : k < n), f k = some v[k] := by
  induction n with
  | zero =>
    constructor
    · intro _ k h
      omega
    · intro _
      simp [collect]
  | succ n ih =>
    constructor
    · intro h
      simp only [collect] at h
      split at h
      · rename_i w x hw hx
        obtain rfl := Option.some.inj h
        intro k hk
        rcases Nat.lt_succ_iff_lt_or_eq.1 hk with hk' | rfl
        · rw [Vector.getElem_push_lt hk']
          exact ih.1 hw k hk'
        · simpa using hx
      · cases h
    · intro h
      have hpop : collect f n = some v.pop := ih.2 fun k hk => by
        rw [Vector.getElem_pop]
        exact h k (by omega)
      have hlast : f n = some v.back := by
        rw [Vector.back_eq_getElem]
        exact h n (by omega)
      simp only [collect, hpop, hlast]
      simp

/-- `collect` answers exactly when every one of the first `n` values is there. -/
theorem collect_isSome {α : Type} {f : Nat → Option α} {n : Nat} :
    (collect f n).isSome ↔ ∀ k, k < n → (f k).isSome := by
  induction n with
  | zero => simp [collect]
  | succ n ih =>
    constructor
    · intro h k hk
      obtain ⟨v, hv⟩ := Option.isSome_iff_exists.1 h
      rw [collect_eq_some.1 hv k hk]
      rfl
    · intro h
      obtain ⟨v, hv⟩ := Option.isSome_iff_exists.1 (ih.2 fun k hk => h k (by omega))
      obtain ⟨x, hx⟩ := Option.isSome_iff_exists.1 (h n (by omega))
      simp [collect, hv, hx]

/-- `L(m)` worked out: 324608 samples, and 4 more for each symbol of filter delay. -/
theorem frameLen_eq (m : Nat) : frameLen m = 324608 + 4 * m := by
  simp only [frameLen, emitCount, Config.kInterp, Config.nPre, Config.nPsym, Config.sf]
  omega

/-- `T(m)` worked out. -/
theorem emitCount_eq (m : Nat) : emitCount m = 162304 + 2 * m := by
  simp only [emitCount, Config.nPre, Config.nPsym, Config.sf]

end Sys2Proof.Machine
end

