-- ==== Sys2Proof/Laws/SsUnit.lean ====
section
/-! SUPPORT. The SS unit's operations in terms of `adv` (R91), and the block's own triple. -/

namespace Sys2Proof

/-- The configured structure is R93's: the bit out is the parity of the register under the polynomial mask. -/
theorem SsCfg.lfsrOut_eq (c : SsCfg) (v : Word32) : c.lfsrOut v = parity (v &&& c.poly) := rfl

/-- The configured structure is R93's: shift up, the bit out into bit 0, cut to `M` bits. -/
theorem SsCfg.lfsrNext_eq (c : SsCfg) (v : Word32) :
    c.lfsrNext v = ((v <<< (1 : Nat)) ||| bitWord (c.lfsrOut v)) &&& BitVec.ofNat 32 c.period := rfl

@[simp] theorem SsCfg.adv_zero (c : SsCfg) (v : Word32) : c.adv 0 v = v := rfl

theorem SsCfg.adv_succ (c : SsCfg) (t : Nat) (v : Word32) : c.adv (t + 1) v = c.lfsrNext (c.adv t v) := rfl

/-- Advances add up. -/
theorem SsCfg.adv_add (c : SsCfg) (t u : Nat) (v : Word32) : c.adv (t + u) v = c.adv u (c.adv t v) := by
  induction u with
  | zero => rfl
  | succ u ih => rw [← Nat.add_assoc, SsCfg.adv_succ, ih, SsCfg.adv_succ]

/-- One more advance, taken first. -/
theorem SsCfg.adv_succ' (c : SsCfg) (t : Nat) (v : Word32) : c.adv (t + 1) v = c.adv t (c.lfsrNext v) := by
  rw [Nat.add_comm, SsCfg.adv_add]; rfl

@[simp] theorem SsUnit.create_cfg (c : SsCfg) : (SsUnit.create c).cfg = c := rfl
@[simp] theorem SsUnit.create_v (c : SsCfg) : (SsUnit.create c).v = c.seed := rfl
@[simp] theorem SsUnit.reset_cfg (u : SsUnit) : u.reset.cfg = u.cfg := rfl
@[simp] theorem SsUnit.reset_v (u : SsUnit) : u.reset.v = u.cfg.seed := rfl
@[simp] theorem SsUnit.advance_bit (u : SsUnit) : u.advance.1 = u.cfg.lfsrOut u.v := rfl
@[simp] theorem SsUnit.advance_unit (u : SsUnit) : u.advance.2 = ⟨u.cfg, u.cfg.lfsrNext u.v⟩ := rfl

/-- Whatever the accumulator, `k` turns of the loop of R97 advance the register `k` times. -/
theorem SsUnit.gather_unit (k : Nat) (sym : Word32) (u : SsUnit) :
    (SsUnit.gather k sym u).2 = ⟨u.cfg, u.cfg.adv k u.v⟩ := by
  induction k generalizing sym u with
  | zero => rfl
  | succ k ih => rw [SsUnit.gather, ih, SsCfg.adv_succ']; rfl

/-- `SS.GENSYM k` leaves the triple and advances the register `k` times (R97). -/
@[simp] theorem SsUnit.gensym_unit (k : Nat) (u : SsUnit) :
    (u.gensym k).2 = ⟨u.cfg, u.cfg.adv k u.v⟩ := SsUnit.gather_unit k 0 u

/-- `SS.GENSYM 2` packs its two bits, the first the more significant (R98). -/
theorem SsUnit.gensym_two (u : SsUnit) :
    (u.gensym 2).1 =
      bitWord (u.cfg.lfsrOut u.v) <<< (1 : Nat) ||| bitWord (u.cfg.lfsrOut (u.cfg.lfsrNext u.v)) := by
  show ((0#32 <<< (1 : Nat) ||| bitWord u.advance.1) <<< (1 : Nat) ||| bitWord u.advance.2.advance.1) = _
  simp

/-- The block's triple is legal (R7, R115). -/
theorem Config.Params.ss_legal (P : Config.Params) : P.ss.legal = true := P.triple.legal

/-- What instantiation can answer: the parameter set of the given triple and members, where the triple is legal. -/
theorem Config.Params.instantiate_eq_some {order polynomial seed : Nat} {o : Config.OpenMembers} {P : Config.Params} :
    Config.Params.instantiate order polynomial seed o = some P ↔
      order ≤ 31 ∧ polynomial < 2 ^ order ∧ seed < 2 ^ order ∧ P.toOpenMembers = o ∧
        P.ss = ⟨BitVec.ofNat 5 order, BitVec.ofNat 32 polynomial, BitVec.ofNat 32 seed⟩ := by
  unfold Config.Params.instantiate Config.LegalTriple.ofNumbers
  split
  · rename_i h
    constructor
    · intro e
      obtain rfl := Option.some.inj e
      exact ⟨h.1, h.2.1, h.2.2.1, rfl, rfl⟩
    · rintro ⟨-, -, -, rfl, e⟩
      obtain ⟨o, c, hc⟩ := P
      cases e
      rfl
  · rename_i h
    constructor
    · simp
    · rintro ⟨h1, h2, h3, -, e⟩
      exact absurd ⟨h1, h2, h3, e ▸ P.ss_legal⟩ h

/-- What `SsCfg.ofOperands` can answer: the triple of the operands, where the order fits 5 bits and the triple
is legal. -/
theorem SsCfg.ofOperands_eq_some {order polynomial seed : Word32} {c : SsCfg} :
    SsCfg.ofOperands order polynomial seed = some c ↔
      order.toNat ≤ 31 ∧ c.legal = true ∧ c = ⟨order.setWidth 5, polynomial, seed⟩ := by
  unfold SsCfg.ofOperands
  split
  · split
    · constructor
      · intro h
        obtain rfl := Option.some.inj h
        exact ⟨by assumption, by assumption, rfl⟩
      · rintro ⟨-, -, rfl⟩
        rfl
    · constructor
      · simp
      · rintro ⟨-, h, rfl⟩
        contradiction
  · constructor
    · simp
    · rintro ⟨h, -, -⟩
      contradiction

end Sys2Proof
end

