-- ==== Sys2Proof/Laws/State.lean ====
section
/-! SUPPORT. One lemma per field per update of `State`, each true by unfolding the update once, so that no
later proof unfolds a record update. -/

namespace Sys2Proof.Machine

/-! ### `answer` (R70) -/

@[simp] theorem State.answer_fsm (s : State) (st : Status) (d : Word32) : (s.answer st d).fsm = s.fsm := rfl
@[simp] theorem State.answer_ss (s : State) (st : Status) (d : Word32) : (s.answer st d).ss = s.ss := rfl
@[simp] theorem State.answer_bytes (s : State) (st : Status) (d : Word32) : (s.answer st d).bytes = s.bytes := rfl
@[simp] theorem State.answer_sym (s : State) (st : Status) (d : Word32) : (s.answer st d).sym = s.sym := rfl
@[simp] theorem State.answer_psym (s : State) (st : Status) (d : Word32) : (s.answer st d).psym = s.psym := rfl
@[simp] theorem State.answer_pre (s : State) (st : Status) (d : Word32) : (s.answer st d).pre = s.pre := rfl
@[simp] theorem State.answer_ist (s : State) (st : Status) (d : Word32) : (s.answer st d).ist = s.ist := rfl
@[simp] theorem State.answer_cfg (s : State) (st : Status) (d : Word32) : (s.answer st d).cfg = s.cfg := rfl
@[simp] theorem State.answer_seq (s : State) (st : Status) (d : Word32) : (s.answer st d).seq = s.seq := rfl
@[simp] theorem State.answer_hostBytes (s : State) (st : Status) (d : Word32) : (s.answer st d).hostBytes = s.hostBytes := rfl
@[simp] theorem State.answer_hostSamples (s : State) (st : Status) (d : Word32) : (s.answer st d).hostSamples = s.hostSamples := rfl
@[simp] theorem State.answer_port (s : State) (st : Status) (d : Word32) : (s.answer st d).port = s.port := rfl
@[simp] theorem State.answer_txn (s : State) (st : Status) (d : Word32) : (s.answer st d).txn = s.txn := rfl
@[simp] theorem State.answer_pending (s : State) (st : Status) (d : Word32) : (s.answer st d).pending = s.pending := rfl
@[simp] theorem State.answer_resp (s : State) (st : Status) (d : Word32) : (s.answer st d).resp = some ⟨st, d⟩ := rfl
@[simp] theorem State.answer_ssCreated (s : State) (st : Status) (d : Word32) : (s.answer st d).ssCreated = s.ssCreated := rfl
@[simp] theorem State.answer_draws (s : State) (st : Status) (d : Word32) : (s.answer st d).draws = s.draws := rfl

/-! ### `raise` (R165) -/

@[simp] theorem State.raise_fsm (s : State) (e : Status) : (s.raise e).fsm = s.fsm := rfl
@[simp] theorem State.raise_ss (s : State) (e : Status) : (s.raise e).ss = s.ss := rfl
@[simp] theorem State.raise_bytes (s : State) (e : Status) : (s.raise e).bytes = s.bytes := rfl
@[simp] theorem State.raise_sym (s : State) (e : Status) : (s.raise e).sym = s.sym := rfl
@[simp] theorem State.raise_psym (s : State) (e : Status) : (s.raise e).psym = s.psym := rfl
@[simp] theorem State.raise_pre (s : State) (e : Status) : (s.raise e).pre = s.pre := rfl
@[simp] theorem State.raise_ist (s : State) (e : Status) : (s.raise e).ist = s.ist := rfl
@[simp] theorem State.raise_cfg (s : State) (e : Status) : (s.raise e).cfg = s.cfg := rfl
@[simp] theorem State.raise_seq (s : State) (e : Status) : (s.raise e).seq = s.seq := rfl
@[simp] theorem State.raise_hostBytes (s : State) (e : Status) : (s.raise e).hostBytes = s.hostBytes := rfl
@[simp] theorem State.raise_hostSamples (s : State) (e : Status) : (s.raise e).hostSamples = s.hostSamples := rfl
@[simp] theorem State.raise_port (s : State) (e : Status) : (s.raise e).port = s.port := rfl
@[simp] theorem State.raise_txn (s : State) (e : Status) : (s.raise e).txn = s.txn := rfl
@[simp] theorem State.raise_pending (s : State) (e : Status) : (s.raise e).pending = s.pending := rfl
@[simp] theorem State.raise_resp (s : State) (e : Status) : (s.raise e).resp = some ⟨e, 0⟩ := rfl
@[simp] theorem State.raise_ssCreated (s : State) (e : Status) : (s.raise e).ssCreated = s.ssCreated := rfl
@[simp] theorem State.raise_draws (s : State) (e : Status) : (s.raise e).draws = s.draws := rfl

/-! ### `refuseIllegal` (R76) -/

@[simp] theorem State.refuseIllegal_fsm (s : State) : (s.refuseIllegal).fsm = s.fsm := rfl
@[simp] theorem State.refuseIllegal_ss (s : State) : (s.refuseIllegal).ss = s.ss := rfl
@[simp] theorem State.refuseIllegal_bytes (s : State) : (s.refuseIllegal).bytes = s.bytes := rfl
@[simp] theorem State.refuseIllegal_sym (s : State) : (s.refuseIllegal).sym = s.sym := rfl
@[simp] theorem State.refuseIllegal_psym (s : State) : (s.refuseIllegal).psym = s.psym := rfl
@[simp] theorem State.refuseIllegal_pre (s : State) : (s.refuseIllegal).pre = s.pre := rfl
@[simp] theorem State.refuseIllegal_ist (s : State) : (s.refuseIllegal).ist = s.ist := rfl
@[simp] theorem State.refuseIllegal_cfg (s : State) : (s.refuseIllegal).cfg = s.cfg := rfl
@[simp] theorem State.refuseIllegal_seq (s : State) : (s.refuseIllegal).seq = s.seq := rfl
@[simp] theorem State.refuseIllegal_hostBytes (s : State) : (s.refuseIllegal).hostBytes = s.hostBytes := rfl
@[simp] theorem State.refuseIllegal_hostSamples (s : State) : (s.refuseIllegal).hostSamples = s.hostSamples := rfl
@[simp] theorem State.refuseIllegal_port (s : State) : (s.refuseIllegal).port = s.port := rfl
@[simp] theorem State.refuseIllegal_txn (s : State) : (s.refuseIllegal).txn = s.txn := rfl
@[simp] theorem State.refuseIllegal_pending (s : State) : (s.refuseIllegal).pending = s.pending := rfl
@[simp] theorem State.refuseIllegal_resp (s : State) : (s.refuseIllegal).resp = some ⟨.unsupportedOperation, 0⟩ := rfl
@[simp] theorem State.refuseIllegal_ssCreated (s : State) : (s.refuseIllegal).ssCreated = s.ssCreated := rfl
@[simp] theorem State.refuseIllegal_draws (s : State) : (s.refuseIllegal).draws = s.draws := rfl

/-! ### `accept` (R70) -/

@[simp] theorem State.accept_fsm (s : State) (t : Txn) (rest : List Txn) : (s.accept t rest).fsm = s.fsm := rfl
@[simp] theorem State.accept_ss (s : State) (t : Txn) (rest : List Txn) : (s.accept t rest).ss = s.ss := rfl
@[simp] theorem State.accept_bytes (s : State) (t : Txn) (rest : List Txn) : (s.accept t rest).bytes = s.bytes := rfl
@[simp] theorem State.accept_sym (s : State) (t : Txn) (rest : List Txn) : (s.accept t rest).sym = s.sym := rfl
@[simp] theorem State.accept_psym (s : State) (t : Txn) (rest : List Txn) : (s.accept t rest).psym = s.psym := rfl
@[simp] theorem State.accept_pre (s : State) (t : Txn) (rest : List Txn) : (s.accept t rest).pre = s.pre := rfl
@[simp] theorem State.accept_ist (s : State) (t : Txn) (rest : List Txn) : (s.accept t rest).ist = s.ist := rfl
@[simp] theorem State.accept_cfg (s : State) (t : Txn) (rest : List Txn) : (s.accept t rest).cfg = s.cfg := rfl
@[simp] theorem State.accept_seq (s : State) (t : Txn) (rest : List Txn) : (s.accept t rest).seq = s.seq := rfl
@[simp] theorem State.accept_hostBytes (s : State) (t : Txn) (rest : List Txn) : (s.accept t rest).hostBytes = s.hostBytes := rfl
@[simp] theorem State.accept_hostSamples (s : State) (t : Txn) (rest : List Txn) : (s.accept t rest).hostSamples = s.hostSamples := rfl
@[simp] theorem State.accept_port (s : State) (t : Txn) (rest : List Txn) : (s.accept t rest).port = s.port := rfl
@[simp] theorem State.accept_txn (s : State) (t : Txn) (rest : List Txn) : (s.accept t rest).txn = t := rfl
@[simp] theorem State.accept_pending (s : State) (t : Txn) (rest : List Txn) : (s.accept t rest).pending = rest := rfl
@[simp] theorem State.accept_resp (s : State) (t : Txn) (rest : List Txn) : (s.accept t rest).resp = s.resp := rfl
@[simp] theorem State.accept_ssCreated (s : State) (t : Txn) (rest : List Txn) : (s.accept t rest).ssCreated = s.ssCreated := rfl
@[simp] theorem State.accept_draws (s : State) (t : Txn) (rest : List Txn) : (s.accept t rest).draws = s.draws := rfl

/-! ### `withResp` (the answer alone) -/

@[simp] theorem State.withResp_fsm (s : State) (r : Option Response) : (s.withResp r).fsm = s.fsm := rfl
@[simp] theorem State.withResp_ss (s : State) (r : Option Response) : (s.withResp r).ss = s.ss := rfl
@[simp] theorem State.withResp_bytes (s : State) (r : Option Response) : (s.withResp r).bytes = s.bytes := rfl
@[simp] theorem State.withResp_sym (s : State) (r : Option Response) : (s.withResp r).sym = s.sym := rfl
@[simp] theorem State.withResp_psym (s : State) (r : Option Response) : (s.withResp r).psym = s.psym := rfl
@[simp] theorem State.withResp_pre (s : State) (r : Option Response) : (s.withResp r).pre = s.pre := rfl
@[simp] theorem State.withResp_ist (s : State) (r : Option Response) : (s.withResp r).ist = s.ist := rfl
@[simp] theorem State.withResp_cfg (s : State) (r : Option Response) : (s.withResp r).cfg = s.cfg := rfl
@[simp] theorem State.withResp_seq (s : State) (r : Option Response) : (s.withResp r).seq = s.seq := rfl
@[simp] theorem State.withResp_hostBytes (s : State) (r : Option Response) : (s.withResp r).hostBytes = s.hostBytes := rfl
@[simp] theorem State.withResp_hostSamples (s : State) (r : Option Response) : (s.withResp r).hostSamples = s.hostSamples := rfl
@[simp] theorem State.withResp_port (s : State) (r : Option Response) : (s.withResp r).port = s.port := rfl
@[simp] theorem State.withResp_txn (s : State) (r : Option Response) : (s.withResp r).txn = s.txn := rfl
@[simp] theorem State.withResp_pending (s : State) (r : Option Response) : (s.withResp r).pending = s.pending := rfl
@[simp] theorem State.withResp_resp (s : State) (r : Option Response) : (s.withResp r).resp = r := rfl
@[simp] theorem State.withResp_ssCreated (s : State) (r : Option Response) : (s.withResp r).ssCreated = s.ssCreated := rfl
@[simp] theorem State.withResp_draws (s : State) (r : Option Response) : (s.withResp r).draws = s.draws := rfl

/-! ### `tearDown` (R114) -/

@[simp] theorem State.tearDown_fsm (s : State) : (s.tearDown).fsm = .dead := rfl
@[simp] theorem State.tearDown_ss (s : State) : (s.tearDown).ss = (Config.unspecified s.draws).ss := rfl
@[simp] theorem State.tearDown_bytes (s : State) : (s.tearDown).bytes = (Config.unspecified s.draws).bytes := rfl
@[simp] theorem State.tearDown_sym (s : State) : (s.tearDown).sym = (Config.unspecified s.draws).sym := rfl
@[simp] theorem State.tearDown_psym (s : State) : (s.tearDown).psym = (Config.unspecified s.draws).psym := rfl
@[simp] theorem State.tearDown_pre (s : State) : (s.tearDown).pre = (Config.unspecified s.draws).pre := rfl
@[simp] theorem State.tearDown_ist (s : State) : (s.tearDown).ist = (Config.unspecified s.draws).ist := rfl
@[simp] theorem State.tearDown_cfg (s : State) : (s.tearDown).cfg = (Config.unspecified s.draws).cfg := rfl
@[simp] theorem State.tearDown_seq (s : State) : (s.tearDown).seq = (Config.unspecified s.draws).seq := rfl
@[simp] theorem State.tearDown_hostBytes (s : State) : (s.tearDown).hostBytes = s.hostBytes := rfl
@[simp] theorem State.tearDown_hostSamples (s : State) : (s.tearDown).hostSamples = s.hostSamples := rfl
@[simp] theorem State.tearDown_port (s : State) : (s.tearDown).port = s.port := rfl
@[simp] theorem State.tearDown_txn (s : State) : (s.tearDown).txn = s.txn := rfl
@[simp] theorem State.tearDown_pending (s : State) : (s.tearDown).pending = s.pending := rfl
@[simp] theorem State.tearDown_resp (s : State) : (s.tearDown).resp = s.resp := rfl
@[simp] theorem State.tearDown_ssCreated (s : State) : (s.tearDown).ssCreated = false := rfl
@[simp] theorem State.tearDown_draws (s : State) : (s.tearDown).draws = s.draws + 1 := rfl

/-! ### `build` (R110) -/

@[simp] theorem State.build_fsm (s : State) (P : Config.Params) : (s.build P).fsm = .created := rfl
@[simp] theorem State.build_ss (s : State) (P : Config.Params) : (s.build P).ss = constructedUnit P := rfl
@[simp] theorem State.build_bytes (s : State) (P : Config.Params) : (s.build P).bytes = s.bytes := rfl
@[simp] theorem State.build_sym (s : State) (P : Config.Params) : (s.build P).sym = s.sym := rfl
@[simp] theorem State.build_psym (s : State) (P : Config.Params) : (s.build P).psym = s.psym := rfl
@[simp] theorem State.build_pre (s : State) (P : Config.Params) : (s.build P).pre = preamble P := rfl
@[simp] theorem State.build_ist (s : State) (P : Config.Params) : (s.build P).ist = P.iInit := rfl
@[simp] theorem State.build_cfg (s : State) (P : Config.Params) : (s.build P).cfg = ⟨Config.filtDelay, Config.filtBeta⟩ := rfl
@[simp] theorem State.build_seq (s : State) (P : Config.Params) : (s.build P).seq = s.seq := rfl
@[simp] theorem State.build_hostBytes (s : State) (P : Config.Params) : (s.build P).hostBytes = s.hostBytes := rfl
@[simp] theorem State.build_hostSamples (s : State) (P : Config.Params) : (s.build P).hostSamples = s.hostSamples := rfl
@[simp] theorem State.build_port (s : State) (P : Config.Params) : (s.build P).port = s.port := rfl
@[simp] theorem State.build_txn (s : State) (P : Config.Params) : (s.build P).txn = s.txn := rfl
@[simp] theorem State.build_pending (s : State) (P : Config.Params) : (s.build P).pending = s.pending := rfl
@[simp] theorem State.build_resp (s : State) (P : Config.Params) : (s.build P).resp = s.resp := rfl
@[simp] theorem State.build_ssCreated (s : State) (P : Config.Params) : (s.build P).ssCreated = true := rfl
@[simp] theorem State.build_draws (s : State) (P : Config.Params) : (s.build P).draws = s.draws := rfl

/-! ### `prepare` (R121) -/

@[simp] theorem State.prepare_fsm (s : State) (P : Config.Params) (b : Vector Byte 72) : (s.prepare P b).fsm = .assembled := rfl
@[simp] theorem State.prepare_ss (s : State) (P : Config.Params) (b : Vector Byte 72) : (s.prepare P b).ss = s.ss.reset := rfl
@[simp] theorem State.prepare_bytes (s : State) (P : Config.Params) (b : Vector Byte 72) : (s.prepare P b).bytes = b := rfl
@[simp] theorem State.prepare_sym (s : State) (P : Config.Params) (b : Vector Byte 72) : (s.prepare P b).sym = P.encode b := rfl
@[simp] theorem State.prepare_psym (s : State) (P : Config.Params) (b : Vector Byte 72) : (s.prepare P b).psym = P.pilot (P.encode b) := rfl
@[simp] theorem State.prepare_pre (s : State) (P : Config.Params) (b : Vector Byte 72) : (s.prepare P b).pre = s.pre := rfl
@[simp] theorem State.prepare_ist (s : State) (P : Config.Params) (b : Vector Byte 72) : (s.prepare P b).ist = P.iInit := rfl
@[simp] theorem State.prepare_cfg (s : State) (P : Config.Params) (b : Vector Byte 72) : (s.prepare P b).cfg = s.cfg := rfl
@[simp] theorem State.prepare_seq (s : State) (P : Config.Params) (b : Vector Byte 72) : (s.prepare P b).seq = s.seq := rfl
@[simp] theorem State.prepare_hostBytes (s : State) (P : Config.Params) (b : Vector Byte 72) : (s.prepare P b).hostBytes = s.hostBytes := rfl
@[simp] theorem State.prepare_hostSamples (s : State) (P : Config.Params) (b : Vector Byte 72) : (s.prepare P b).hostSamples = s.hostSamples := rfl
@[simp] theorem State.prepare_port (s : State) (P : Config.Params) (b : Vector Byte 72) : (s.prepare P b).port = s.port := rfl
@[simp] theorem State.prepare_txn (s : State) (P : Config.Params) (b : Vector Byte 72) : (s.prepare P b).txn = s.txn := rfl
@[simp] theorem State.prepare_pending (s : State) (P : Config.Params) (b : Vector Byte 72) : (s.prepare P b).pending = s.pending := rfl
@[simp] theorem State.prepare_resp (s : State) (P : Config.Params) (b : Vector Byte 72) : (s.prepare P b).resp = s.resp := rfl
@[simp] theorem State.prepare_ssCreated (s : State) (P : Config.Params) (b : Vector Byte 72) : (s.prepare P b).ssCreated = s.ssCreated := rfl
@[simp] theorem State.prepare_draws (s : State) (P : Config.Params) (b : Vector Byte 72) : (s.prepare P b).draws = s.draws := rfl

/-! ### `stream` (R132) -/

@[simp] theorem State.stream_fsm (s : State) (P : Config.Params) : (s.stream P).fsm = .streamed := rfl
@[simp] theorem State.stream_ss (s : State) (P : Config.Params) : (s.stream P).ss = afterPayload s.ss := rfl
@[simp] theorem State.stream_bytes (s : State) (P : Config.Params) : (s.stream P).bytes = s.bytes := rfl
@[simp] theorem State.stream_sym (s : State) (P : Config.Params) : (s.stream P).sym = s.sym := rfl
@[simp] theorem State.stream_psym (s : State) (P : Config.Params) : (s.stream P).psym = s.psym := rfl
@[simp] theorem State.stream_pre (s : State) (P : Config.Params) : (s.stream P).pre = s.pre := rfl
@[simp] theorem State.stream_ist (s : State) (P : Config.Params) : (s.stream P).ist = P.interpState s.ist (s.frameInputs P) := rfl
@[simp] theorem State.stream_cfg (s : State) (P : Config.Params) : (s.stream P).cfg = s.cfg := rfl
@[simp] theorem State.stream_seq (s : State) (P : Config.Params) : (s.stream P).seq = (Config.unspecified s.draws).seq := rfl
@[simp] theorem State.stream_hostBytes (s : State) (P : Config.Params) : (s.stream P).hostBytes = s.bytesAfterWrite := rfl
@[simp] theorem State.stream_hostSamples (s : State) (P : Config.Params) : (s.stream P).hostSamples = s.samplesAfterWrite P := rfl
@[simp] theorem State.stream_port (s : State) (P : Config.Params) : (s.stream P).port = s.port := rfl
@[simp] theorem State.stream_txn (s : State) (P : Config.Params) : (s.stream P).txn = s.txn := rfl
@[simp] theorem State.stream_pending (s : State) (P : Config.Params) : (s.stream P).pending = s.pending := rfl
@[simp] theorem State.stream_resp (s : State) (P : Config.Params) : (s.stream P).resp = s.resp := rfl
@[simp] theorem State.stream_ssCreated (s : State) (P : Config.Params) : (s.stream P).ssCreated = s.ssCreated := rfl
@[simp] theorem State.stream_draws (s : State) (P : Config.Params) : (s.stream P).draws = s.draws + 1 := rfl

/-! ### `microStart` (R140) -/

@[simp] theorem State.microStart_fsm (s : State) : (s.microStart).fsm = s.fsm := rfl
@[simp] theorem State.microStart_ss (s : State) : (s.microStart).ss = s.ss := rfl
@[simp] theorem State.microStart_bytes (s : State) : (s.microStart).bytes = s.bytes := rfl
@[simp] theorem State.microStart_sym (s : State) : (s.microStart).sym = s.sym := rfl
@[simp] theorem State.microStart_psym (s : State) : (s.microStart).psym = s.psym := rfl
@[simp] theorem State.microStart_pre (s : State) : (s.microStart).pre = s.pre := rfl
@[simp] theorem State.microStart_ist (s : State) : (s.microStart).ist = s.ist := rfl
@[simp] theorem State.microStart_cfg (s : State) : (s.microStart).cfg = s.cfg := rfl
@[simp] theorem State.microStart_seq (s : State) : (s.microStart).seq = ⟨.pre, 0, 0, 0⟩ := rfl
@[simp] theorem State.microStart_hostBytes (s : State) : (s.microStart).hostBytes = s.hostBytes := rfl
@[simp] theorem State.microStart_hostSamples (s : State) : (s.microStart).hostSamples = s.hostSamples := rfl
@[simp] theorem State.microStart_port (s : State) : (s.microStart).port = s.port := rfl
@[simp] theorem State.microStart_txn (s : State) : (s.microStart).txn = s.txn := rfl
@[simp] theorem State.microStart_pending (s : State) : (s.microStart).pending = s.pending := rfl
@[simp] theorem State.microStart_resp (s : State) : (s.microStart).resp = s.resp := rfl
@[simp] theorem State.microStart_ssCreated (s : State) : (s.microStart).ssCreated = s.ssCreated := rfl
@[simp] theorem State.microStart_draws (s : State) : (s.microStart).draws = s.draws := rfl

/-! ### `microDone` (R140) -/

@[simp] theorem State.microDone_fsm (s : State) : (s.microDone).fsm = .streamed := rfl
@[simp] theorem State.microDone_ss (s : State) : (s.microDone).ss = s.ss := rfl
@[simp] theorem State.microDone_bytes (s : State) : (s.microDone).bytes = s.bytes := rfl
@[simp] theorem State.microDone_sym (s : State) : (s.microDone).sym = s.sym := rfl
@[simp] theorem State.microDone_psym (s : State) : (s.microDone).psym = s.psym := rfl
@[simp] theorem State.microDone_pre (s : State) : (s.microDone).pre = s.pre := rfl
@[simp] theorem State.microDone_ist (s : State) : (s.microDone).ist = s.ist := rfl
@[simp] theorem State.microDone_cfg (s : State) : (s.microDone).cfg = s.cfg := rfl
@[simp] theorem State.microDone_seq (s : State) : (s.microDone).seq = (Config.unspecified s.draws).seq := rfl
@[simp] theorem State.microDone_hostBytes (s : State) : (s.microDone).hostBytes = s.hostBytes := rfl
@[simp] theorem State.microDone_hostSamples (s : State) : (s.microDone).hostSamples = s.hostSamples := rfl
@[simp] theorem State.microDone_port (s : State) : (s.microDone).port = s.port := rfl
@[simp] theorem State.microDone_txn (s : State) : (s.microDone).txn = s.txn := rfl
@[simp] theorem State.microDone_pending (s : State) : (s.microDone).pending = s.pending := rfl
@[simp] theorem State.microDone_resp (s : State) : (s.microDone).resp = some ⟨.ok, 0⟩ := rfl
@[simp] theorem State.microDone_ssCreated (s : State) : (s.microDone).ssCreated = s.ssCreated := rfl
@[simp] theorem State.microDone_draws (s : State) : (s.microDone).draws = s.draws + 1 := rfl

end Sys2Proof.Machine
end

