-- ==== Sys2Proof/Laws/Exec.lean ====
section
/-! SUPPORT. What each operation and the step can do, said once: the cases of every meaning (R110 to R153), of
the write's checks (R131), and of one step. Later proofs cite these and unfold no meaning. -/

namespace Sys2Proof.Machine

theorem Lifecycle.live_eq_false {f : Lifecycle} : f.live = false ↔ f = .dead := by
  cases f <;> decide

theorem Lifecycle.live_eq_true {f : Lifecycle} : f.live = true ↔ f ≠ .dead := by
  cases f <;> decide

/-- All `FG.CONSTRUCT` can do: it completes in every state (R115). -/
theorem exec_fgConstruct (s : State) :
    exec .fgConstruct s = .next
      (((if s.fsm.live then s.tearDown else s).build Config.params).answer .ok 0) := rfl

/-- All `FG.TEARDOWN` can do. -/
theorem exec_fgTeardown (s : State) :
    exec .fgTeardown s =
      if s.fsm.live then .next (s.tearDown.answer .ok 0) else .next (s.raise .invalidConfiguration) := rfl

/-- All `FG.ASSEMBLE` can do. -/
theorem exec_fgAssemble_cases (hn pn : Bool) (s : State) :
    (s.fsm = .dead ∧ exec (.fgAssemble hn pn) s = .next (s.raise .invalidConfiguration)) ∨
    (s.fsm ≠ .dead ∧ ∃ b, operandBytes s.txn s.hostBytes hn pn = some b ∧
      exec (.fgAssemble hn pn) s = .next ((s.prepare Config.params b).answer .ok 0)) ∨
    (s.fsm ≠ .dead ∧ operandBytes s.txn s.hostBytes hn pn = none ∧
      exec (.fgAssemble hn pn) s = .fault .hostByteAbsent) := by
  show _ ∨ (_ ∧ ∃ b, _ ∧ execFgAssemble hn pn s = _) ∨ _
  by_cases h : s.fsm = .dead
  · exact .inl ⟨h, if_neg (by rw [Lifecycle.live_eq_false.2 h]; decide)⟩
  · have hl : execFgAssemble hn pn s = match operandBytes s.txn s.hostBytes hn pn with
        | some b => .next ((s.prepare Config.params b).answer .ok 0)
        | none => .fault .hostByteAbsent := if_pos (Lifecycle.live_eq_true.2 h)
    rcases hb : operandBytes s.txn s.hostBytes hn pn with - | b
    · exact .inr (.inr ⟨h, rfl, by rw [hb] at hl; exact hl⟩)
    · exact .inr (.inl ⟨h, b, rfl, by rw [hl, hb]⟩)

/-- The checks of R131 under this hardware's policy, case by case. -/
theorem writeError_forbid (s : State) :
    writeError .forbid s =
      match s.fsm with
      | .dead => some .invalidConfiguration
      | .created => some .staleState
      | .assembled => if s.capOk then none else some .bufferTooSmall
      | .streamed => some .staleState := by
  unfold writeError
  cases s.fsm <;> rfl

/-- All `FG.WRITE` can do. -/
theorem exec_fgWrite (s : State) :
    exec .fgWrite s = .next
      (match s.fsm with
      | .dead => s.raise .invalidConfiguration
      | .created => s.raise .staleState
      | .assembled =>
        if s.capOk then (s.stream Config.params).answer .ok 0 else s.raise .bufferTooSmall
      | .streamed => s.raise .staleState) := by
  show Host.Outcome.next (writeUnder .forbid Config.params s) = _
  unfold writeUnder
  rw [writeError_forbid]
  cases s.fsm
  · rfl
  · rfl
  · cases h : s.capOk <;> rfl
  · rfl

/-- All `FG.GETLEN` can do. -/
theorem exec_fgGetlen (s : State) :
    exec .fgGetlen s =
      if s.fsm.live then .next (s.answer .ok (BitVec.ofNat 32 (frameLen s.cfg.m)))
      else .next (s.raise .invalidConfiguration) := rfl

/-- All `FG.COPY` can do. -/
theorem exec_fgCopy (s : State) :
    exec .fgCopy s =
      if s.fsm.live then .next (s.raise .unsupportedOperation)
      else .next (s.raise .invalidConfiguration) := rfl

/-- All `FG.PRINT` can do. -/
theorem exec_fgPrint (s : State) :
    exec .fgPrint s =
      if s.fsm.live then .next (s.answer .ok 0) else .next (s.raise .invalidConfiguration) := rfl

/-- All `SS.CREATE` can do. -/
theorem exec_ssCreate (s : State) :
    exec .ssCreate s =
      match SsCfg.ofOperands s.txn.order s.txn.polynomial s.txn.seed with
      | some c => .next ({ s with ss := SsUnit.create c, ssCreated := true }.answer .ok 0)
      | none => .refused .illegalSsConfiguration := rfl

/-- All `SS.RESET` can do. -/
theorem exec_ssReset (s : State) :
    exec .ssReset s =
      if s.ssCreated then .next ({ s with ss := s.ss.reset }.answer .ok 0)
      else .refused .ssNeverCreated := rfl

/-- All `SS.ADVANCE` can do. -/
theorem exec_ssAdvance (s : State) :
    exec .ssAdvance s =
      if s.ssCreated then .next ({ s with ss := s.ss.advance.2 }.answer .ok (bitWord s.ss.advance.1))
      else .refused .ssNeverCreated := rfl

/-- All `SS.GENSYM` can do. -/
theorem exec_ssGensym (k : Nat) (s : State) :
    exec (.ssGensym k) s =
      if s.ssCreated then .next ({ s with ss := (s.ss.gensym k).2 }.answer .ok (s.ss.gensym k).1)
      else .refused .ssNeverCreated := rfl

/-- All a step can do when it answers a next state: nothing is pending and nothing changes; or the next
transaction's word is illegal and is answered so; or its instruction ran. -/
theorem step_cases {s s' : State} (h : step s = .next s') :
    (s.pending = [] ∧ s' = s) ∨
    (∃ t rest e, s.pending = t :: rest ∧ decode s.port t.cmd = .error e ∧
      s' = (s.accept t rest).refuseIllegal) ∨
    (∃ t rest i, s.pending = t :: rest ∧ decode s.port t.cmd = .ok i ∧
      exec i (s.accept t rest) = .next s') := by
  unfold step at h
  split at h
  · rename_i hp
    cases h
    exact .inl ⟨hp, rfl⟩
  · rename_i t rest hp
    split at h
    · rename_i i hd
      exact .inr (.inr ⟨t, rest, i, hp, hd, h⟩)
    · rename_i e hd
      cases h
      exact .inr (.inl ⟨t, rest, e, hp, hd, rfl⟩)

end Sys2Proof.Machine
end

