-- ==== Sys2Proof/Laws/Samples.lean ====
section
/-! SUPPORT. Negation is an involution (R9), the quarter turns by rows (R135), the interpolator over a list. -/

namespace Sys2Proof.Config

/-- `neg(neg(x)) = x` (R9). -/
@[simp] theorem Params.neg_neg (P : Params) (x : Scalar) : P.neg (P.neg x) = x := P.negation.involutive x

@[simp] theorem Params.rot_zero (P : Params) (x : Sample) : P.rot 0 x = x := rfl
@[simp] theorem Params.rot_one (P : Params) (x : Sample) : P.rot 1 x = ⟨P.neg x.im, x.re⟩ := rfl
@[simp] theorem Params.rot_two (P : Params) (x : Sample) : P.rot 2 x = ⟨P.neg x.re, P.neg x.im⟩ := rfl
@[simp] theorem Params.rot_three (P : Params) (x : Sample) : P.rot 3 x = ⟨x.im, P.neg x.re⟩ := rfl

@[simp] theorem Params.interpOut_nil (P : Params) (q : IState) : P.interpOut q [] = [] := rfl
@[simp] theorem Params.interpState_nil (P : Params) (q : IState) : P.interpState q [] = q := rfl

theorem Params.interpOut_cons (P : Params) (q : IState) (x : Sample) (xs : List Sample) :
    P.interpOut q (x :: xs) =
      (P.iExec q x).2.1 :: (P.iExec q x).2.2 :: P.interpOut (P.iExec q x).1 xs := rfl

theorem Params.interpState_cons (P : Params) (q : IState) (x : Sample) (xs : List Sample) :
    P.interpState q (x :: xs) = P.interpState (P.iExec q x).1 xs := rfl

/-- Each interpolator call yields `K_INTERP = 2` samples (R5, R8). -/
theorem Params.interpOut_length (P : Params) (q : IState) (xs : List Sample) :
    (P.interpOut q xs).length = 2 * xs.length := by
  induction xs generalizing q with
  | nil => rfl
  | cons x xs ih => simp only [Params.interpOut_cons, List.length_cons, ih]; omega

/-- Driving the interpolator over one list and then another. -/
theorem Params.interpState_append (P : Params) (q : IState) (xs ys : List Sample) :
    P.interpState q (xs ++ ys) = P.interpState (P.interpState q xs) ys := by
  induction xs generalizing q with
  | nil => rfl
  | cons x xs ih => exact ih _

theorem Params.interpOut_append (P : Params) (q : IState) (xs ys : List Sample) :
    P.interpOut q (xs ++ ys) = P.interpOut q xs ++ P.interpOut (P.interpState q xs) ys := by
  induction xs generalizing q with
  | nil => rfl
  | cons x xs ih => simp [Params.interpOut_cons, Params.interpState_cons, ih]

end Sys2Proof.Config
end

