-- ==== Sys2Proof/Laws/Frame.lean ====
section
/-! SUPPORT. The loops of `FG.CONSTRUCT` and `FG.WRITE`: how far each moves the SS unit, and how many symbols,
interpolator inputs and samples each yields (R110, R134, R137, R138). -/

namespace Sys2Proof.Machine

/-- `n` turns of R110's loop advance the unit `2n` times. -/
theorem afterPreamble_eq (n : Nat) (u : SsUnit) : afterPreamble n u = ⟨u.cfg, u.cfg.adv (2 * n) u.v⟩ := by
  induction n with
  | zero => rfl
  | succ n ih => rw [afterPreamble, ih]; rfl

/-- `n` chip draws advance the unit `2n` times. -/
theorem afterChips_eq (n : Nat) (u : SsUnit) : afterChips n u = ⟨u.cfg, u.cfg.adv (2 * n) u.v⟩ := by
  induction n with
  | zero => rfl
  | succ n ih => rw [afterChips, ih, SsUnit.gensym_unit]; rfl

/-- Construction leaves the unit 2048 advances past the seed (R36, R110). -/
theorem constructedUnit_eq (P : Config.Params) : constructedUnit P = ⟨P.ss, P.ss.adv 2048 P.ss.seed⟩ :=
  afterPreamble_eq 1024 _

/-- The payload phase advances the unit by 322560 bits (R134). -/
theorem afterPayload_eq (u : SsUnit) : afterPayload u = ⟨u.cfg, u.cfg.adv 322560 u.v⟩ :=
  afterChips_eq 161280 u

@[simp] theorem symbolChips_length (P : Config.Params) (x : Sample) (n : Nat) (u : SsUnit) :
    (symbolChips P x n u).length = n := by
  induction n generalizing u with
  | zero => rfl
  | succ n ih => simp [symbolChips, ih]

/-- 256 inputs for each symbol (R134). -/
theorem payloadInputs_length (P : Config.Params) (xs : List Sample) (u : SsUnit) :
    (payloadInputs P xs u).length = 256 * xs.length := by
  induction xs generalizing u with
  | nil => rfl
  | cons x xs ih => simp only [payloadInputs, List.length_append, symbolChips_length, ih, List.length_cons, Config.sf]; omega

@[simp] theorem flushInputs_length (P : Config.Params) (m : Nat) : (flushInputs P m).length = 2 * m := by
  simp [flushInputs]

/-- One write makes `T(m)` interpolator calls (R138). -/
theorem frameInputs_length (P : Config.Params) (s : State) :
    (s.frameInputs P).length = emitCount s.cfg.m := by
  simp only [State.frameInputs, List.length_append, payloadInputs_length, flushInputs_length,
    Vector.length_toList, emitCount_eq]
  omega

/-- One write yields `L(m)` samples (R138). -/
theorem frameSamples_length (P : Config.Params) (s : State) :
    (s.frameSamples P).length = frameLen s.cfg.m := by
  rw [State.frameSamples, Config.Params.interpOut_length, frameInputs_length]
  rfl

end Sys2Proof.Machine
end

