-- ==== Sys2Proof/Laws/PerInstr.lean ====
section
/-! SUPPORT. Statements about every operation as syntax, one lemma per constructor. The family
`PortOfEncoding`: the word of a well-formed operation has the operation's opcode in its upper byte, and that
opcode range belongs to the operation's own port (R70, R72, R83). -/

namespace Sys2Proof.Laws.PortOfEncoding

/-- The upper byte of the encoded word is the opcode, and the word's opcode range gives the operation's port. -/
def Statement (i : Instr) : Prop :=
  i.wellFormed = true → opField (encode i) = i.opcode ∧ portOf (encode i) = i.port

theorem fgConstruct : Statement .fgConstruct := fun _ => by decide
theorem fgTeardown : Statement .fgTeardown := fun _ => by decide
theorem fgAssemble (hn pn : Bool) : Statement (.fgAssemble hn pn) := fun _ => by
  revert hn pn
  decide
theorem fgWrite : Statement .fgWrite := fun _ => by decide
theorem fgGetlen : Statement .fgGetlen := fun _ => by decide
theorem fgCopy : Statement .fgCopy := fun _ => by decide
theorem fgPrint : Statement .fgPrint := fun _ => by decide
theorem ssCreate : Statement .ssCreate := fun _ => by decide
theorem ssReset : Statement .ssReset := fun _ => by decide
theorem ssAdvance : Statement .ssAdvance := fun _ => by decide
theorem ssGensym (k : Nat) : Statement (.ssGensym k) := fun h => by
  have hk : k ≤ 31 := of_decide_eq_true h
  clear h
  revert k
  decide

end Sys2Proof.Laws.PortOfEncoding
end

