-- ==== Sys2Proof/Tests/Slice0.lean ====
section
/-! SUPPORT. Tests on the spec's own vectors (95_test_vectors.md, named in each comment), and for every statement
of Certificates/Slice0/Obligations.lean that has hypotheses a concrete state and operands that meet them
(`witness_<statement>`). -/

namespace Sys2Proof.Tests

set_option maxRecDepth 20000

open Sys2Proof.Machine

/-! ### Well-formedness -/

/-- R75b, R97: the count is a 5-bit field, so 32 is no operand of `SS.GENSYM`; 31 is. -/
theorem test_wellFormed_refuses_count_32 : (Instr.ssGensym 32).wellFormed = false := by decide

theorem test_wellFormed_accepts_count_31 : (Instr.ssGensym 31).wellFormed = true := by decide

/-! ### Decoding, words written out from R72 and R75 (V1) -/

/-- V1a, V1c to V1g: opcodes 0x01, 0x02, 0x03 with `HN = imm[0]`, `PN = imm[1]`. -/
theorem test_decode_lifecycle_and_assemble :
    decode .host 0b0000000100000000 = .ok .fgConstruct ∧
    decode .host 0b0000001000000000 = .ok .fgTeardown ∧
    decode .host 0b0000001100000000 = .ok (.fgAssemble false false) ∧
    decode .host 0b0000001100000001 = .ok (.fgAssemble true false) ∧
    decode .host 0b0000001100000010 = .ok (.fgAssemble false true) ∧
    decode .host 0b0000001100000011 = .ok (.fgAssemble true true) := by decide

/-- V1i to V1l: opcodes 0x04 to 0x07. -/
theorem test_decode_write_and_queries :
    decode .host 0b0000010000000000 = .ok .fgWrite ∧
    decode .host 0b0000010100000000 = .ok .fgGetlen ∧
    decode .host 0b0000011000000000 = .ok .fgCopy ∧
    decode .host 0b0000011100000000 = .ok .fgPrint := by decide

/-- V1q to V1v: opcodes 0x10 to 0x13 with `k = imm[4:0]`. -/
theorem test_decode_sequence_source :
    decode .ss 0b0001000000000000 = .ok .ssCreate ∧
    decode .ss 0b0001000100000000 = .ok .ssReset ∧
    decode .ss 0b0001001000000000 = .ok .ssAdvance ∧
    decode .ss 0b0001001100000000 = .ok (.ssGensym 0) ∧
    decode .ss 0b0001001100000010 = .ok (.ssGensym 2) ∧
    decode .ss 0b0001001100011111 = .ok (.ssGensym 31) := by decide

/-- V1b, V1h, V1m to V1p, V1w to V1y: the illegal words. -/
theorem test_decode_illegal_words :
    decode .host 0x0101 = .error .reservedImmediate ∧ decode .host 0x0304 = .error .reservedImmediate ∧
    decode .host 0x0000 = .error .unknownOpcode ∧ decode .host 0x0800 = .error .unknownOpcode ∧
    decode .host 0x1302 = .error .wrongPort ∧ decode .host 0xFFFF = .error .unknownOpcode ∧
    decode .ss 0x1320 = .error .reservedImmediate ∧ decode .ss 0x0500 = .error .wrongPort ∧
    decode .ss 0x1201 = .error .reservedImmediate := by decide

/-- R80's encodings. -/
theorem test_encode_words :
    encode (.fgAssemble true false) = 0x0301 ∧ encode (.fgAssemble false true) = 0x0302 ∧
    encode (.ssGensym 2) = 0x1302 ∧ encode .fgPrint = 0x0700 := by decide

/-- The table's numbering: bits above the row's 16 are no part of the word. -/
theorem test_decodeTableWord :
    decodeTableWord 16 0x0302 = some (.fgAssemble false true) ∧
    decodeTableWord 16 0x131F = some (.ssGensym 31) ∧ decodeTableWord 16 0x0304 = none := by decide

/-! ### The SS unit -/

/-- The toy triple of V2. -/
def toy : SsCfg := ⟨3, 0x6, 1⟩

/-- The default instantiation of R103, used by the vectors that say so. -/
def defaultTriple : SsCfg := ⟨11, 0x500, 1⟩

/-- V4b: the legal small triples. -/
theorem test_legal_triples :
    SsCfg.legal toy = true ∧ SsCfg.legal ⟨2, 3, 1⟩ = true ∧ SsCfg.legal ⟨3, 5, 1⟩ = true ∧
    SsCfg.legal ⟨4, 0xC, 1⟩ = true := by decide

/-- V4b: the illegal triples. -/
theorem test_illegal_triples :
    SsCfg.ofOperands 3 4 1 = none ∧ SsCfg.ofOperands 4 0xA 1 = none ∧ SsCfg.ofOperands 3 6 0 = none ∧
    SsCfg.ofOperands 3 8 1 = none ∧ SsCfg.ofOperands 1 1 1 = none ∧ SsCfg.ofOperands 32 1 1 = none := by
  decide

/-- V4b at instantiation: a legal set keeps its triple, each illegal one is refused. -/
theorem test_instantiation :
    (Config.LegalTriple.ofNumbers 3 6 1).map (fun t => t.cfg) = some ⟨3, 6, 1⟩ ∧
    [(3, 4, 1), (4, 0xA, 1), (3, 6, 0), (3, 8, 1), (1, 1, 1), (32, 1, 1)].all
      (fun t : Nat × Nat × Nat => (Config.LegalTriple.ofNumbers t.1 t.2.1 t.2.2).isNone) = true := by decide

/-- V2: the register visits 1, 2, 5, 3, 7, 6, 4 and returns to 1, and the bits are 0 1 1 1 0 0 1 0. -/
theorem test_toy_sequence :
    (List.range 8).map (fun t => (toy.adv t 1).toNat) = [1, 2, 5, 3, 7, 6, 4, 1] ∧
    (List.range 8).map toy.seqBit = [false, true, true, true, false, false, true, false] := by decide

/-- V5: `s[8..31]` under the default instantiation. -/
theorem test_default_bits :
    (SsUnit.gensym 24 ⟨defaultTriple, defaultTriple.adv 8 1⟩).1 = 0b101000000100010000101010 := by decide

/-- V9: the register after 16 advances. -/
theorem test_default_register : defaultTriple.adv 16 1 = 0x0A0 := by decide

/-- A block whose SS unit holds the toy triple at register value `v`, everything else as at power-on. -/
def ssAt (v : Word32) : State := { State.reset with ss := ⟨toy, v⟩, ssCreated := true }

/-- A transaction of SS.CREATE's three operands. -/
def createTxn (order polynomial seed : Word32) : Txn :=
  { Txn.idle with order := order, polynomial := polynomial, seed := seed }

/-- A state whose port holds a transaction. -/
def onPort (s : State) (t : Txn) : State := { s with txn := t }

/-- R94's example: `SS.CREATE 3, 0x6, 1` leaves `ss.v = 1`. -/
theorem test_ssCreate_example :
    (nextState (exec .ssCreate (onPort State.reset (createTxn 3 6 1)))).map (fun t => t.ss) =
      some ⟨⟨3, 6, 1⟩, 1⟩ := by decide

/-- R95's example: from `ss.v = 5` a reset leaves 1. -/
theorem test_ssReset_example :
    (nextState (exec .ssReset (ssAt 5))).map (fun t => t.ss.v) = some 1 := by decide

/-- V2, advance 1: from 2 the bit is 1 and the register becomes 5. -/
theorem test_ssAdvance_example :
    (nextState (exec .ssAdvance (ssAt 2))).map (fun t => (t.resp, t.ss.v)) =
      some (some ⟨.ok, 1⟩, 5) := by decide

/-- V3: `SS.GENSYM 10` from the seed answers 459 and leaves 3. -/
theorem test_ssGensym_beyond_the_period :
    (nextState (exec (.ssGensym 10) (ssAt 1))).map (fun t => (t.resp, t.ss.v)) =
      some (some ⟨.ok, 459⟩, 3) := by decide

/-- V7: `SS.GENSYM 31` from the seed of the default instantiation answers 0x00502215. -/
theorem test_ssGensym_31 : (SsUnit.gensym 31 (SsUnit.create defaultTriple)).1 = 0x00502215 := by decide

/-! ### Samples -/

/-- Toy parameters of V21 and V23: integer scalars, `INV_SQRT2` standing as 7, the one-symbol-delay
interpolator. -/
def toyParams : Config.Params where
  triple := { cfg := toy, legal := by decide }
  zero := ⟨0⟩
  invSqrt2 := ⟨7⟩
  negation := { map := fun x => ⟨-x.code⟩, involutive := fun x => by simp }
  encode := fun b => Vector.replicate 600 ⟨⟨b[0].toNat⟩, ⟨0⟩⟩
  pilot := fun x => Vector.replicate 630 x[0]
  iInit := ⟨[0, 0]⟩
  iExec := fun q x => (⟨[x.re.code, x.im.code]⟩, ⟨⟨q.data.getD 0 0⟩, ⟨q.data.getD 1 0⟩⟩, x)

/-- V21: the four quarter turns of (3, 5). -/
theorem test_rotations :
    toyParams.rot 0 ⟨⟨3⟩, ⟨5⟩⟩ = ⟨⟨3⟩, ⟨5⟩⟩ ∧ toyParams.rot 1 ⟨⟨3⟩, ⟨5⟩⟩ = ⟨⟨-5⟩, ⟨3⟩⟩ ∧
    toyParams.rot 2 ⟨⟨3⟩, ⟨5⟩⟩ = ⟨⟨-3⟩, ⟨-5⟩⟩ ∧ toyParams.rot 3 ⟨⟨3⟩, ⟨5⟩⟩ = ⟨⟨5⟩, ⟨-3⟩⟩ := by decide

/-- V20: chips 0 to 15 of a write, default instantiation. -/
theorem test_chips :
    (List.range 16).map (fun n => (chipAt (SsUnit.create defaultTriple) n).toNat) =
      [0, 0, 0, 0, 2, 2, 0, 0, 1, 0, 1, 0, 0, 2, 2, 2] := by decide

/-- V13: preamble symbols 4, 7 and 8, default instantiation: bits 10, 00, 01. -/
theorem test_preamble_symbols :
    ((preambleSyms toyParams 9 (SsUnit.create defaultTriple)).drop 4)[0]? = some ⟨⟨7⟩, ⟨-7⟩⟩ ∧
    ((preambleSyms toyParams 9 (SsUnit.create defaultTriple)).drop 7) =
      [⟨⟨-7⟩, ⟨-7⟩⟩, ⟨⟨-7⟩, ⟨7⟩⟩] := by decide

/-- V23: each interpolator call puts out the previous input, then the present one. -/
theorem test_interpolator_threading :
    toyParams.interpOut toyParams.iInit [⟨⟨1⟩, ⟨2⟩⟩, ⟨⟨3⟩, ⟨4⟩⟩] =
      [⟨⟨0⟩, ⟨0⟩⟩, ⟨⟨1⟩, ⟨2⟩⟩, ⟨⟨1⟩, ⟨2⟩⟩, ⟨⟨3⟩, ⟨4⟩⟩] := by decide

/-! ### The FG operations -/

/-- The operands of V15, and a capacity: header at 0 to 7, payload at 100 to 163, output at 0. -/
def frameTxn (cap : Word32) (outLen : Nat) : Txn :=
  { Txn.idle with hdr := 0, pld := 100, fill := Vector.replicate 72 0xF0, cap := cap, outLen := outLen }

/-- Host memory with V15's header `01 .. 08` and payload `64 .. A3`. -/
def frameBytes : Memory Byte :=
  (List.range 8).map (fun k => (k, BitVec.ofNat 8 (k + 1))) ++
  (List.range 64).map (fun k => (100 + k, BitVec.ofNat 8 (0x64 + k)))

/-- A block in a given lifecycle state with the configuration of R6, V15's operands on the port, and a capacity
that the buffer honours. -/
def blockIn (f : Lifecycle) (cap : Word32) : State :=
  { State.reset with
    fsm := f
    cfg := ⟨7, 3 / 10⟩
    ss := ⟨toy, 5⟩
    ssCreated := true
    hostBytes := frameBytes
    txn := frameTxn cap cap.toNat }

/-- The status and the next lifecycle state an operation answers. -/
def outcomeOf (i : Instr) (s : State) : Option (Option Status × Lifecycle) :=
  (nextState (exec i s)).map (fun t => (t.resp.map (fun r => r.status), t.fsm))

/-- V30, lines 3 and 15. -/
theorem test_fgConstruct :
    outcomeOf .fgConstruct State.reset = some (some .ok, .created) ∧
    outcomeOf .fgConstruct (blockIn .assembled 0) = some (some .ok, .created) := by decide

/-- V30, lines 2 and 16. -/
theorem test_fgTeardown :
    outcomeOf .fgTeardown State.reset = some (some .invalidConfiguration, .dead) ∧
    outcomeOf .fgTeardown (blockIn .streamed 0) = some (some .ok, .dead) := by decide

/-- Entries 0, 8, 9 and 71 of the bytes an assemble prepares. -/
def assembled (hn pn : Bool) : Option (List Byte) :=
  (operandBytes (frameTxn 0 0) frameBytes hn pn).map (fun b => [b[0], b[8], b[9], b[71]])

/-- V15, the four forms. -/
theorem test_fgAssemble_bytes :
    assembled false false = some [0x01, 0x64, 0x65, 0xA3] ∧ assembled true false = some [0xF0, 0x64, 0x65, 0xA3] ∧
    assembled false true = some [0x01, 0xF0, 0xF0, 0xF0] ∧ assembled true true = some [0xF0, 0xF0, 0xF0, 0xF0] := by
  decide

/-- V16: from `Streamed` the register is back at the seed; from `Dead` nothing is read. -/
theorem test_fgAssemble_states :
    (nextState (exec (.fgAssemble true true) (blockIn .streamed 0))).map (fun t => (t.ss.v, t.fsm)) =
      some (1, .assembled) ∧
    outcomeOf (.fgAssemble false false) State.reset = some (some .invalidConfiguration, .dead) := by decide

/-- V25: the capacities 324635 and 324636. -/
theorem test_fgWrite_capacity :
    outcomeOf .fgWrite (blockIn .assembled 324635) = some (some .bufferTooSmall, .assembled) ∧
    outcomeOf .fgWrite (blockIn .assembled 324636) = some (some .ok, .streamed) := by decide

/-- V26: the order of the checks. -/
theorem test_fgWrite_check_order :
    outcomeOf .fgWrite (blockIn .streamed 0) = some (some .staleState, .streamed) ∧
    outcomeOf .fgWrite (blockIn .created 324636) = some (some .staleState, .created) ∧
    outcomeOf .fgWrite (blockIn .dead 0) = some (some .invalidConfiguration, .dead) := by decide

/-- V30, lines 1 and 13; V35. -/
theorem test_fgGetlen :
    (nextState (exec .fgGetlen (blockIn .streamed 0))).map (fun t => t.resp) = some (some ⟨.ok, 324636⟩) ∧
    outcomeOf .fgGetlen State.reset = some (some .invalidConfiguration, .dead) ∧
    [0, 1, 3, 7, 15].map frameLen = [324608, 324612, 324620, 324636, 324668] := by decide

/-- V30, line 5, and R170's `Dead` column. -/
theorem test_fgCopy :
    outcomeOf .fgCopy (blockIn .created 0) = some (some .unsupportedOperation, .created) ∧
    outcomeOf .fgCopy State.reset = some (some .invalidConfiguration, .dead) := by decide

/-- V30, line 6, and R170's `Dead` column. -/
theorem test_fgPrint :
    outcomeOf .fgPrint (blockIn .created 0) = some (some .ok, .created) ∧
    outcomeOf .fgPrint State.reset = some (some .invalidConfiguration, .dead) := by decide

/-! ### The step -/

/-- A transaction that presents a bare word, other lines those of V15 with a capacity of 324636. -/
def wordTxn (cmd : CmdWord) : Txn := { frameTxn 324636 324636 with cmd := cmd }

/-- A state with one transaction to come. -/
def facing (s : State) (t : Txn) : State := { s with pending := [t] }

/-- An SS unit on its own, holding the toy triple at register value `v`. -/
def loneUnit (v : Word32) : State := { ssAt v with port := .ss }

/-- The first transaction after power-on, as the host's interface presents it. -/
theorem test_step_runs_the_word :
    (nextState (step (State.reset.withFetchWord 16 0x0100))).map (fun t => t.fsm) = some .created ∧
    (nextState (step (State.reset.withFetchWord 16 0x0304))).map (fun t => t.resp) =
      some (some ⟨.unsupportedOperation, 0⟩) := by decide

/-- R71, R77: a block's host presenting an SS word is answered `UnsupportedOperation` and moves no register; the same
word on an SS unit of its own runs (V2, advance 1). -/
theorem test_ss_word_runs_on_the_ss_port_only :
    (nextState (step (facing (blockIn .assembled 0) (wordTxn 0x1200)))).map (fun t => (t.resp, t.ss.v)) =
      some (some ⟨.unsupportedOperation, 0⟩, 5) ∧
    (nextState (step (facing (loneUnit 2) (wordTxn 0x1200)))).map (fun t => (t.resp, t.ss.v)) =
      some (some ⟨.ok, 1⟩, 5) := by decide

/-- R101: an SS operation on a unit never created is refused. -/
theorem test_ss_operation_refused_at_power_on :
    step (State.reset.withFetchWord 16 0x1200) = .refused .ssNeverCreated := rfl

/-! ### Witnesses: states and operands that meet the hypotheses of the statements -/

theorem witness_DecodeInvertsEncode :
    (Instr.ssGensym 31).wellFormed = true ∧ (Instr.fgAssemble true false).wellFormed = true := by decide

theorem witness_EncodeInvertsDecode :
    decode .ss 0x131F = .ok (.ssGensym 31) ∧ decode .host 0x0303 = .ok (.fgAssemble true true) := by decide

theorem witness_DecodeFollowsMaskAndMatch :
    decode .host 0x0302 = .ok (.fgAssemble false true) ∧
    (⟨"FG.ASSEMBLE", .host, 0xFFFC, 0x0300⟩ : OpcodeRow) ∈ opcodeTable ∧
    (0x0302 : CmdWord) &&& 0xFFFC = 0x0300 := by decide

/-- Both sides of each immediate's bound, and an operation without immediate. -/
theorem witness_ImmediateIsReadByField :
    opField 0x0303 = 0x03 ∧ opField 0x0304 = 0x03 ∧ opField 0x131F = 0x13 ∧ opField 0x1320 = 0x13 ∧
    decode .host 0x0400 = .ok .fgWrite ∧ opField 0x0400 ≠ 0x03 ∧ opField 0x0400 ≠ 0x13 := by decide

/-- The ends of both opcode ranges, and opcode 0. -/
theorem witness_OtherPortAndZeroOpcodeAreIllegal :
    (0x10 ≤ opField 0x10FF ∧ opField 0x10FF ≤ 0x13) ∧ (0x10 ≤ opField 0x1302 ∧ opField 0x1302 ≤ 0x13) ∧
    (0x01 ≤ opField 0x0100 ∧ opField 0x0100 ≤ 0x07) ∧ (0x01 ≤ opField 0x0700 ∧ opField 0x0700 ≤ 0x07) ∧
    opField 0x00FF = 0x00 := by decide

theorem witness_StepRunsTheDecodedOperation :
    (facing State.reset (wordTxn 0x0100)).pending = wordTxn 0x0100 :: [] ∧
    decode (facing State.reset (wordTxn 0x0100)).port (wordTxn 0x0100).cmd = .ok .fgConstruct := by decide

theorem witness_IllegalWordIsRefusedByTheBlock :
    (facing (loneUnit 1) (wordTxn 0x1320)).pending = wordTxn 0x1320 :: [] ∧
    ∀ r ∈ opcodeTable, r.port = (facing (loneUnit 1) (wordTxn 0x1320)).port →
      (wordTxn 0x1320).cmd &&& r.mask ≠ r.pattern := by
  decide

/-- The ends of both opcode ranges, on a block and on an SS unit of its own; and a construction, which changes a block's
SS unit record. -/
theorem witness_HostHasNoPathToTheSsPort :
    (State.reset.port = .host ∧ 0x10 ≤ opField (wordTxn 0x1000).cmd ∧ opField (wordTxn 0x13FF).cmd ≤ 0x13) ∧
    ((loneUnit 1).port = .ss ∧ 0x01 ≤ opField (wordTxn 0x0100).cmd ∧ opField (wordTxn 0x0700).cmd ≤ 0x07) ∧
    (∃ t, step (facing State.reset (wordTxn 0x0100)) = .next t ∧ t.ssCreated ≠ State.reset.ssCreated) ∧
    ∃ t, step (facing (loneUnit 2) (wordTxn 0x1200)) = .next t :=
  ⟨by decide, by decide, ⟨_, rfl, by decide⟩, ⟨_, rfl⟩⟩

/-- The toy triple: its mask lies below `2^M`; the first advance the recurrence speaks of is `M`. -/
theorem witness_FeedbackIsTheFibonacciRecurrence :
    toy.poly.toNat < 2 ^ toy.order.toNat ∧ toy.order.toNat ≤ 3 ∧ 2 < toy.order.toNat ∧ 2 ≤ 2 := by decide

theorem witness_IdleStepHoldsTheState : State.reset.pending = [] := rfl

/-- The toy triple meets R94's precondition; V4b's `(3, 0x4, 1)`, and the orders 1 and 32, do not. -/
theorem witness_SsCreateLatchesTheTriple :
    SsPrecondition 3 6 1 ∧ SsPrecondition 2 3 1 ∧ ¬ SsPrecondition 3 4 1 ∧ ¬ SsPrecondition 1 1 1 ∧
    ¬ SsPrecondition 32 1 1 := by
  refine ⟨⟨by decide, by decide, by decide, by decide, by decide, by decide, by decide, ?_⟩,
    ⟨by decide, by decide, by decide, by decide, by decide, by decide, by decide, ?_⟩,
    fun h => ?_, fun h => ?_, fun h => ?_⟩
  · have h : ∀ t, t < 7 → 0 < t → SsCfg.adv ⟨3, 6, 1⟩ t 1 ≠ 1 := by decide
    exact fun t h0 ht => h t ht h0
  · have h : ∀ t, t < 3 → 0 < t → SsCfg.adv ⟨2, 3, 1⟩ t 1 ≠ 1 := by decide
    exact fun t h0 ht => h t ht h0
  · exact h.2.2.2.2.2.2.2 3 (by decide) (by decide) (by decide)
  · exact absurd h.1 (by decide)
  · exact absurd h.2.1 (by decide)

theorem witness_SsResetRewindsToTheSeed : (ssAt 5).ssCreated = true := rfl

/-- A created unit one advance past its seed, on a legal triple. -/
theorem witness_SsAdvanceReturnsTheNextBit :
    (ssAt 2).ssCreated = true ∧ (ssAt 2).ss.v = (ssAt 2).ss.cfg.adv 1 (ssAt 2).ss.cfg.seed ∧
    (ssAt 2).ss.cfg.legal = true := by decide

/-- The largest count. -/
theorem witness_SsGensymPacksFirstBitHighest : (ssAt 5).ssCreated = true ∧ 31 ≤ 31 := by decide

/-- A count of 31 split into 16 and 15, and a mixed run of draws. -/
theorem witness_SsDrawsCompose :
    (ssAt 5).ssCreated = true ∧ 16 + 15 ≤ 31 ∧
    (∀ i ∈ [Instr.ssAdvance, .ssGensym 31, .ssGensym 0], isDraw i = true) ∧ toy.legal = true := by decide

theorem witness_MaximalLengthCycle : toy.legal = true ∧ SsCfg.legal ⟨2, 3, 1⟩ = true := by decide

/-- A legal triple, and an involution that is not the identity. -/
theorem witness_ParametersRangeOverTheLegalOnes :
    (2 ≤ toy.order.toNat ∧ 0 < toy.poly.toNat ∧ toy.poly.toNat < 2 ^ toy.order.toNat ∧
      0 < toy.seed.toNat ∧ toy.seed.toNat < 2 ^ toy.order.toNat ∧ SsMaximal toy) ∧
    ∀ x : Scalar, (fun y : Scalar => Scalar.mk (-y.code)) ((fun y : Scalar => Scalar.mk (-y.code)) x) = x := by
  refine ⟨⟨by decide, by decide, by decide, by decide, by decide, by decide, ?_⟩, fun x => by simp⟩
  have h : ∀ t, t < 7 → 0 < t → toy.adv t toy.seed ≠ toy.seed := by decide
  exact fun t h0 ht => h t ht h0

/-- The toy triple is legal, and the smallest order; V4b's `(3, 0x8, 1)`, and the orders 1 and 32, are not. -/
theorem witness_IllegalParametersHaveNoInstance :
    (2 ≤ 2 ∧ 2 ≤ 31 ∧ 0 < 3 ∧ 3 < 2 ^ 2 ∧ 0 < 1 ∧ 1 < 2 ^ 2 ∧
      SsMaximal ⟨BitVec.ofNat 5 2, BitVec.ofNat 32 3, BitVec.ofNat 32 1⟩) ∧
    ¬ (8 < 2 ^ 3) ∧ ¬ (2 ≤ 1) ∧ ¬ (32 ≤ 31) :=
  ⟨⟨by decide, by decide, by decide, by decide, by decide, by decide, witness_SsCreateLatchesTheTriple.2.1.2.2.2.2.2.2⟩,
    by decide, by decide, by decide⟩

theorem witness_SsOperationsNeedACreatedUnit : State.reset.ssCreated = false := rfl

theorem witness_SsOperationsAnswerOk :
    Instr.ssReset.port = .ss ∧ ∃ t, exec .ssReset (ssAt 5) = .next t := ⟨rfl, _, rfl⟩

theorem witness_ConstructLeavesTheFrameBuffers : State.reset.fsm = .dead := rfl

theorem witness_ConstructOnALiveBlockRebuilds : (blockIn .assembled 0).fsm ≠ .dead := by decide

theorem witness_TeardownEndsDead :
    (blockIn .created 0).fsm ≠ .dead ∧ State.reset.fsm = .dead ∧
    Instr.fgWrite.port = .host ∧ Instr.fgWrite ≠ .fgConstruct := by decide

theorem witness_PreambleIsConstructionsAlone :
    (Instr.fgPrint ≠ .fgConstruct ∧ Instr.fgPrint ≠ .fgTeardown ∧
      ∃ t, exec .fgPrint (blockIn .created 0) = .next t) ∧
    (∃ t, exec .fgConstruct State.reset = .next t) ∧ ∃ t, exec .fgConstruct (blockIn .streamed 0) = .next t :=
  ⟨⟨by decide, by decide, _, rfl⟩, ⟨_, rfl⟩, ⟨_, rfl⟩⟩

/-- V15's memory holds the 8 header and the 64 payload bytes. -/
theorem frameBytes_readable :
    (∀ k, k < 8 → (frameBytes.read (0 + k)).isSome) ∧ (∀ k, k < 64 → (frameBytes.read (100 + k)).isSome) := by
  decide

/-- Both operands present, and both absent. -/
theorem witness_AssemblePreparesTheFrame :
    (blockIn .created 0).fsm ≠ .dead ∧ (blockIn .created 0).operandsReadable false false ∧
    (blockIn .created 0).operandsReadable true true ∧ State.reset.fsm = .dead :=
  ⟨by decide, ⟨fun _ => frameBytes_readable.1, fun _ => frameBytes_readable.2⟩,
    ⟨fun h => Bool.noConfusion h, fun h => Bool.noConfusion h⟩, rfl⟩

/-- A live block whose host memory lists nothing. -/
theorem witness_AssembleFaultsOnlyOnAMissingByte :
    { blockIn .created 0 with hostBytes := [] }.fsm ≠ .dead ∧
    ¬ State.operandsReadable { blockIn .created 0 with hostBytes := [] } false true := by
  refine ⟨by decide, fun h => ?_⟩
  exact absurd (h.1 rfl 0 (by decide)) (by decide)

/-- Two blocks that differ in their past: one assembled and standing at 5, one written and standing at 3. -/
theorem witness_AssembleForgetsThePast :
    (blockIn .assembled 0).fsm ≠ .dead ∧ { blockIn .streamed 0 with ss := ⟨toy, 3⟩ }.fsm ≠ .dead ∧
    (blockIn .assembled 0).txn = { blockIn .streamed 0 with ss := ⟨toy, 3⟩ }.txn ∧
    (blockIn .assembled 0).hostBytes = { blockIn .streamed 0 with ss := ⟨toy, 3⟩ }.hostBytes ∧
    (blockIn .assembled 0).pre = { blockIn .streamed 0 with ss := ⟨toy, 3⟩ }.pre ∧
    (blockIn .assembled 0).cfg = { blockIn .streamed 0 with ss := ⟨toy, 3⟩ }.cfg ∧
    (blockIn .assembled 0).ss.cfg = { blockIn .streamed 0 with ss := ⟨toy, 3⟩ }.ss.cfg ∧
    ∃ t, exec (.fgAssemble true true) (blockIn .assembled 0) = .next t :=
  ⟨by decide, by decide, rfl, rfl, rfl, rfl, rfl, by
    rcases exec_fgAssemble_cases true true (blockIn .assembled 0) with ⟨h, -⟩ | ⟨-, b, -, h⟩ | ⟨-, h, -⟩
    · exact absurd h (by decide)
    · exact ⟨_, h⟩
    · exact absurd h (by decide)⟩

/-- The three checks, the last at the largest capacity it refuses. -/
theorem witness_WriteChecksInOrder :
    State.reset.fsm = .dead ∧ ((blockIn .created 0).fsm = .created ∨ (blockIn .created 0).fsm = .streamed) ∧
    ((blockIn .streamed 0).fsm = .created ∨ (blockIn .streamed 0).fsm = .streamed) ∧
    (blockIn .assembled 324635).fsm = .assembled ∧
    (blockIn .assembled 324635).txn.cap.toNat < 2 * (1024 + 630 * 256 + 2 * (blockIn .assembled 324635).cfg.m) := by
  decide

/-- The smallest capacity a write accepts, honestly declared. -/
theorem witness_WriteRunsWhole :
    (blockIn .assembled 324636).fsm = .assembled ∧
    2 * (1024 + 630 * 256 + 2 * (blockIn .assembled 324636).cfg.m) ≤ (blockIn .assembled 324636).txn.cap.toNat ∧
    (blockIn .assembled 324636).honestCapacity := by decide

/-- A write that `FG.WRITE` accepts completes. -/
theorem write_completes (s : State) : ∃ t, exec .fgWrite s = .next t := ⟨_, rfl⟩

theorem witness_WriteOutputIsTheClosedForm :
    (blockIn .assembled 324636).fsm = .assembled ∧
    2 * (1024 + 630 * 256 + 2 * (blockIn .assembled 324636).cfg.m) ≤ (blockIn .assembled 324636).txn.cap.toNat ∧
    (blockIn .assembled 324636).honestCapacity ∧ (∃ t, exec .fgWrite (blockIn .assembled 324636) = .next t) ∧
    324635 < 2 * (1024 + 630 * 256 + 2 * (blockIn .assembled 324636).cfg.m) :=
  ⟨by decide, by decide, by decide, write_completes _, by decide⟩

/-- With micro-steps 1023, 1024, 162303, 162304 and 162318 in range. -/
theorem witness_MicroStepsRefineTheWrite :
    (blockIn .assembled 324636).fsm = .assembled ∧ (blockIn .assembled 324636).capOk = true ∧
    (blockIn .assembled 324636).honestCapacity ∧ (∃ t, exec .fgWrite (blockIn .assembled 324636) = .next t) ∧
    162318 ≤ emitCount (blockIn .assembled 324636).cfg.m :=
  ⟨by decide, by decide, by decide, write_completes _, by decide⟩

/-- Two assembled blocks whose pilot-bearing symbols differ. -/
def otherFrame : State :=
  { blockIn .assembled 324637 with ist := Config.params.iInit, psym := Vector.replicate 630 ⟨⟨1⟩, ⟨2⟩⟩ }

/-- The first of the two. -/
def oneFrame : State := { blockIn .assembled 324636 with ist := Config.params.iInit }

theorem witness_FirstSamplesIgnoreThePayload :
    oneFrame.fsm = .assembled ∧ otherFrame.fsm = .assembled ∧ oneFrame.capOk = true ∧ otherFrame.capOk = true ∧
    oneFrame.honestCapacity ∧ otherFrame.honestCapacity ∧ oneFrame.ist = Config.params.iInit ∧
    otherFrame.ist = Config.params.iInit ∧ oneFrame.pre = otherFrame.pre ∧
    (∃ t, exec .fgWrite oneFrame = .next t) ∧ (∃ t, exec .fgWrite otherFrame = .next t) ∧ 2047 < 2048 :=
  ⟨rfl, rfl, by decide, by decide, by decide, by decide, rfl, rfl, rfl, write_completes _, write_completes _,
    by decide⟩

theorem witness_ShortCapacityMayBeRetried :
    (blockIn .assembled 324635).fsm = .assembled ∧
    (blockIn .assembled 324635).txn.cap.toNat < frameLen (blockIn .assembled 324635).cfg.m ∧
    frameLen (blockIn .assembled 324635).cfg.m ≤ (frameTxn 324636 324636).cap.toNat ∧
    (frameTxn 324636 324636).cap.toNat ≤ (frameTxn 324636 324636).outLen := by decide

/-- A buffer one entry shorter than the frame it is declared to hold. -/
theorem witness_OverrunLeavesTheBlockAsUsual :
    (onPort (blockIn .assembled 0) (frameTxn 324636 324635)).fsm = .assembled ∧
    (onPort (blockIn .assembled 0) (frameTxn 324636 324635)).capOk = true ∧
    (onPort (blockIn .assembled 0) (frameTxn 324636 324635)).txn.outLen <
      frameLen (onPort (blockIn .assembled 0) (frameTxn 324636 324635)).cfg.m := by decide

/-- A dead block and a written one with the same operand bytes. -/
theorem witness_ConstructAssembleWriteIsDeterministic :
    (∀ k, k < 8 → ((blockIn .dead 324636).hostBytes.read ((blockIn .dead 324636).txn.hdr + k)).isSome = true ∧
      (blockIn .dead 324636).hostBytes.read ((blockIn .dead 324636).txn.hdr + k) =
        (blockIn .streamed 324637).hostBytes.read ((blockIn .streamed 324637).txn.hdr + k)) ∧
    (∀ k, k < 64 → ((blockIn .dead 324636).hostBytes.read ((blockIn .dead 324636).txn.pld + k)).isSome = true ∧
      (blockIn .dead 324636).hostBytes.read ((blockIn .dead 324636).txn.pld + k) =
        (blockIn .streamed 324637).hostBytes.read ((blockIn .streamed 324637).txn.pld + k)) ∧
    324636 ≤ (blockIn .dead 324636).txn.cap.toNat ∧ (blockIn .dead 324636).honestCapacity ∧
    324636 ≤ (blockIn .streamed 324637).txn.cap.toNat ∧ (blockIn .streamed 324637).honestCapacity :=
  ⟨fun k hk => ⟨frameBytes_readable.1 k hk, rfl⟩, fun k hk => ⟨frameBytes_readable.2 k hk, rfl⟩,
    by decide, by decide, by decide, by decide⟩

theorem witness_RepeatedAssembleWriteRepeatsTheFrame :
    (blockIn .created 324636).fsm ≠ .dead ∧ (blockIn .created 324636).operandsReadable false false ∧
    (blockIn .created 324636).capOk = true ∧ (blockIn .created 324636).honestCapacity :=
  ⟨by decide, ⟨fun _ => frameBytes_readable.1, fun _ => frameBytes_readable.2⟩, by decide, by decide⟩

theorem witness_OtherStalePoliciesRunFromTheirPhase :
    ((blockIn .streamed 324636).fsm = .assembled ∨ (blockIn .streamed 324636).fsm = .streamed) ∧
    (blockIn .streamed 324636).capOk = true ∧ (blockIn .streamed 324636).honestCapacity := by decide

theorem witness_GetlenAnswersTheFrameLength :
    (blockIn .created 0).fsm ≠ .dead ∧ (blockIn .created 0).cfg.m = 7 ∧ State.reset.fsm = .dead := by decide

/-- The hardware's delay, and the largest the length fits for; and an operation that keeps `cfg`. -/
theorem witness_LengthIsTheSmallestAcceptedCapacity :
    (blockIn .assembled 324636).fsm = .assembled ∧ (blockIn .assembled 324636).cfg.m < 2 ^ 29 ∧
    { blockIn .assembled 0 with cfg := ⟨2 ^ 29 - 1, 0⟩ }.cfg.m < 2 ^ 29 ∧
    Instr.fgWrite ≠ .fgConstruct ∧ Instr.fgWrite ≠ .fgTeardown ∧
    ∃ t, exec .fgWrite (blockIn .assembled 324636) = .next t :=
  ⟨by decide, by decide, by decide, by decide, by decide, write_completes _⟩

theorem witness_CopyNeverSucceeds : (blockIn .assembled 0).fsm ≠ .dead ∧ State.reset.fsm = .dead := by decide

theorem witness_PrintChangesNothing : (blockIn .assembled 0).fsm ≠ .dead ∧ State.reset.fsm = .dead := by decide

theorem witness_QueriesDoNotAffectLaterOperations :
    Instr.fgCopy = .fgGetlen ∨ Instr.fgCopy = .fgCopy ∨ Instr.fgCopy = .fgPrint := by decide

theorem witness_ErrorsLeaveNoTrace :
    ∃ t r, exec .fgCopy (blockIn .created 0) = .next t ∧ t.resp = some r ∧ r.status ≠ .ok :=
  ⟨_, _, rfl, rfl, by decide⟩

theorem witness_LifecycleTableHolds :
    Instr.fgWrite.port = .host ∧
    (∀ hn pn, Instr.fgWrite = .fgAssemble hn pn → (blockIn .assembled 0).operandsReadable hn pn) ∧
    (facing (blockIn .streamed 0) (wordTxn 0x1302)).pending = wordTxn 0x1302 :: [] ∧
    decode (facing (blockIn .streamed 0) (wordTxn 0x1302)).port (wordTxn 0x1302).cmd = .error .wrongPort :=
  ⟨rfl, (fun _ _ h => Instr.noConfusion h), rfl, by decide⟩

theorem witness_LifecycleReachability :
    (Instr.fgConstruct.port = .host ∧ State.reset.fsm = .dead ∧
      ∃ t, exec .fgConstruct State.reset = .next t ∧ t.answers .ok 0) ∧
    ((blockIn .created 0).fsm ≠ .dead ∧ (blockIn .created 0).operandsReadable false false) ∧
    ((blockIn .assembled 324636).fsm = .assembled ∧ (blockIn .assembled 324636).capOk = true) ∧
    ∃ t, exec .fgPrint (blockIn .streamed 0) = .next t ∧ t.fsm = .streamed :=
  ⟨⟨rfl, rfl, _, rfl, rfl⟩, ⟨by decide, ⟨fun _ => frameBytes_readable.1, fun _ => frameBytes_readable.2⟩⟩,
    ⟨by decide, by decide⟩, ⟨_, rfl, rfl⟩⟩

theorem witness_OnlyWriteWritesHostMemory :
    (∃ t, exec .fgWrite (blockIn .assembled 324636) = .next t) ∧ (blockIn .assembled 324636).honestCapacity ∧
    Instr.fgGetlen ≠ .fgWrite ∧ ∃ t, exec .fgGetlen (blockIn .assembled 0) = .next t :=
  ⟨write_completes _, by decide, by decide, ⟨_, rfl⟩⟩

/-- A block at power-on with a construction to come: it meets the invariant and steps. -/
theorem witness_EveryStepKeepsTheBlockInvariant :
    (facing State.reset (wordTxn 0x0100)).inv ∧
    ∃ t, step (facing State.reset (wordTxn 0x0100)) = .next t := by
  refine ⟨⟨rfl, fun h => ?_, fun h => ?_, fun h => ?_, fun h => ?_⟩, ⟨_, rfl⟩⟩
  · exact absurd h (by decide)
  · exact absurd h (by decide)
  · exact absurd h (by decide)
  · exact absurd h (by decide)

/-- A created unit on its seed's cycle with an advance to come. -/
theorem witness_EveryStepKeepsTheSsCycle :
    (facing (loneUnit 2) (wordTxn 0x1200)).ssInv ∧ (facing (loneUnit 2) (wordTxn 0x1200)).ssCreated = true ∧
    ∃ t, step (facing (loneUnit 2) (wordTxn 0x1200)) = .next t :=
  ⟨fun _ => ⟨by decide, 1, by decide⟩, rfl, ⟨_, rfl⟩⟩

/-- A frame to be written into host memory that already lists bytes. -/
theorem witness_EveryStepKeepsMemoryCanonical :
    (facing (blockIn .assembled 0) (wordTxn 0x0400)).memoryWf ∧
    ∃ t, step (facing (blockIn .assembled 0) (wordTxn 0x0400)) = .next t :=
  ⟨⟨by decide, by decide⟩, ⟨_, rfl⟩⟩

theorem witness_ResetMeetsTheInvariants :
    frameBytes.wf ∧ Memory.wf [(3, (⟨⟨1⟩, ⟨2⟩⟩ : Sample))] := by decide

end Sys2Proof.Tests
end

