-- ==== Sys2Proof/Proofs/Scope.lean ====
section
/-! The step on a decodable word (R13, R70). -/

namespace Sys2Proof.Machine

/-- One step on a word its port decodes: the transaction is accepted and its operation runs. -/
theorem step_of_decode_ok {s : State} {t : Txn} {rest : List Txn} {i : Instr}
    (hp : s.pending = t :: rest) (hd : decode s.port t.cmd = .ok i) :
    step s = exec i (s.accept t rest) := by
  unfold step
  simp only [hp, hd]

/-- Settles O7, by the equation of `step` on a decodable word; accepting a transaction puts its lines on the port
and takes it from the list to come. -/
theorem stepRunsTheDecodedOperation : Obligations.StepRunsTheDecodedOperation := by
  intro s t rest i hp hd
  have haccept : s.accept t rest = { s with txn := t, pending := rest } := rfl
  rw [← haccept]
  exact step_of_decode_ok hp hd

end Sys2Proof.Machine
end

section
/-! What one operation does to the state, and the invariants every step keeps (R21, R27, R36, R39 to R41). -/

/-! ### The SS unit's cycle (R21, R91, R92) -/

namespace Sys2Proof

/-- The masked shift of R93 never leaves the register's `M` bits. -/
theorem SsCfg.lfsrNext_le_period (c : SsCfg) (v : Word32) : (c.lfsrNext v).toNat ≤ c.period := by
  rw [SsCfg.lfsrNext_eq, BitVec.toNat_and, BitVec.toNat_ofNat]
  exact Nat.and_le_right.trans (Nat.mod_le _ _)

/-- The zero register is a fixed point of the feedback. -/
@[simp] theorem SsCfg.lfsrNext_zero (c : SsCfg) : c.lfsrNext 0 = 0 := by
  have hout : c.lfsrOut 0 = false := by
    rw [SsCfg.lfsrOut_eq, show (0 : Word32) &&& c.poly = 0 from BitVec.zero_and]
    decide
  rw [SsCfg.lfsrNext_eq, hout]
  simp [bitWord]

/-- A register that is 0 stays 0. -/
@[simp] theorem SsCfg.adv_zero_register (c : SsCfg) (n : Nat) : c.adv n 0 = 0 := by
  induction n with
  | zero => rfl
  | succ n ih => rw [SsCfg.adv_succ, ih, SsCfg.lfsrNext_zero]

/-- What the return test decides: the seed comes back after `n` advances and not before. -/
theorem SsCfg.firstBackAfter_iff (c : SsCfg) (n : Nat) (v : Word32) :
    c.firstBackAfter n v = true ↔ (∀ t < n, c.adv t v ≠ c.seed) ∧ c.adv n v = c.seed := by
  induction n generalizing v with
  | zero => simp [SsCfg.firstBackAfter]
  | succ n ih =>
    simp only [SsCfg.firstBackAfter, Bool.and_eq_true, bne_iff_ne, ih, ← SsCfg.adv_succ']
    rw [Nat.forall_lt_succ_left, SsCfg.adv_zero, and_assoc]

/-- The decision of R92 is the maximal-length condition in the spec's words. -/
theorem SsCfg.maximal_iff {c : SsCfg} (hperiod : 0 < c.period) :
    c.maximal = true ↔ Machine.SsMaximal c := by
  obtain ⟨p, hp⟩ : ∃ p, c.period = p + 1 := ⟨c.period - 1, by omega⟩
  rw [SsCfg.maximal, SsCfg.firstBackAfter_iff, Machine.SsMaximal, hp, Nat.add_sub_cancel, and_comm]
  simp only [← SsCfg.adv_succ']
  refine and_congr_right fun _ => ⟨fun h t ht htp => ?_, fun h t ht => h (t + 1) (by omega) (by omega)⟩
  obtain ⟨t, rfl⟩ : ∃ u, t = u + 1 := ⟨t - 1, by omega⟩
  exact h t (by omega)

/-- An order within R7's range has a non-empty cycle. -/
theorem SsCfg.period_pos {c : SsCfg} (horder : 2 ≤ c.order.toNat) : 0 < c.period :=
  Nat.sub_pos_of_lt (Nat.one_lt_two_pow (by omega))

/-- A legal triple, in the terms of R7 and R92. -/
theorem SsCfg.legal_iff (c : SsCfg) :
    c.legal = true ↔ 2 ≤ c.order.toNat ∧ 0 < c.poly.toNat ∧ c.poly.toNat ≤ c.period ∧
      0 < c.seed.toNat ∧ c.seed.toNat ≤ c.period ∧ Machine.SsMaximal c := by
  simp only [SsCfg.legal, SsCfg.inRange, Bool.and_eq_true, decide_eq_true_eq, and_assoc]
  exact and_congr_right fun horder => by rw [SsCfg.maximal_iff (SsCfg.period_pos horder)]

/-- A whole number of periods leads back to the seed. -/
theorem SsCfg.adv_mul_period {c : SsCfg} (hmax : Machine.SsMaximal c) (k : Nat) :
    c.adv (k * c.period) c.seed = c.seed := by
  induction k with
  | zero => rw [Nat.zero_mul, SsCfg.adv_zero]
  | succ k ih => rw [Nat.succ_mul, SsCfg.adv_add, ih, hmax.1]

/-- The register of a legal triple never becomes 0: from 0 it would not come back to the seed. -/
theorem SsCfg.adv_seed_ne_zero {c : SsCfg} (hlegal : c.legal = true) (n : Nat) : c.adv n c.seed ≠ 0 := by
  obtain ⟨horder, -, -, hseed, -, hmax⟩ := c.legal_iff.1 hlegal
  intro hzero
  have hle : n ≤ n * c.period := Nat.le_mul_of_pos_right n (SsCfg.period_pos horder)
  have hback : c.adv (n + (n * c.period - n)) c.seed = c.seed := by
    rw [Nat.add_sub_cancel' hle, SsCfg.adv_mul_period hmax]
  rw [SsCfg.adv_add, hzero, SsCfg.adv_zero_register] at hback
  rw [← hback] at hseed
  exact absurd hseed (by decide)

/-- R21: on the seed's cycle of a legal triple the register lies in `1 .. 2^M - 1`. -/
theorem SsCfg.adv_seed_range {c : SsCfg} (hlegal : c.legal = true) (n : Nat) :
    1 ≤ (c.adv n c.seed).toNat ∧ (c.adv n c.seed).toNat ≤ c.period := by
  constructor
  · exact Nat.pos_of_ne_zero fun h => SsCfg.adv_seed_ne_zero hlegal n (BitVec.eq_of_toNat_eq h)
  · obtain ⟨-, -, -, -, hseed, -⟩ := c.legal_iff.1 hlegal
    cases n with
    | zero => exact hseed
    | succ n => exact c.lfsrNext_le_period _

/-! ### Which port a word decodes on (R71, R77) -/

/-- An operation without an immediate is read exactly from an immediate of 0 (R75). -/
theorem needZeroImm_eq_ok {imm : BitVec 8} {i j : Instr} : needZeroImm imm i = .ok j ↔ imm = 0 ∧ i = j := by
  unfold needZeroImm
  split <;> simp_all

/-- The host port's decoder reads FG operations only. -/
theorem decodeHost_port {op imm : BitVec 8} {i : Instr} (h : decodeHost op imm = .ok i) : i.port = .host := by
  unfold decodeHost at h
  repeat' split at h
  all_goals simp only [needZeroImm_eq_ok, Except.ok.injEq, reduceCtorEq] at h
  on_goal 3 => exact h ▸ rfl -- `FG.ASSEMBLE`, the one operation here with an immediate
  all_goals exact h.2 ▸ rfl

end Sys2Proof

/-! ### The interpolator's inputs in closed form (R134, R136, R141) -/

namespace Sys2Proof.Machine

/-- Standing `k` chip draws further on, a unit's chips are the later ones. -/
theorem chipAt_afterChips (u : SsUnit) (k n : Nat) : chipAt (afterChips k u) n = chipAt u (k + n) := by
  rw [afterChips_eq]
  simp only [chipAt, ← SsCfg.adv_add, Nat.mul_add, Nat.add_assoc]

/-- The rotation index of one draw is the closed form's (R98, R136). -/
theorem chipIndex_gensym_two (u : SsUnit) : chipIndex (u.gensym 2).1 = chipAt u 0 := by
  have hpack : ∀ a b : Bool,
      chipIndex (bitWord a <<< (1 : Nat) ||| bitWord b) = BitVec.ofNat 2 (2 * a.toNat + b.toNat) := by decide
  rw [SsUnit.gensym_two, hpack]
  rfl

/-- The chips of one symbol, index by index (R134). -/
theorem symbolChips_getElem? (P : Config.Params) (x : Sample) {n t : Nat} (u : SsUnit) (ht : t < n) :
    (symbolChips P x n u)[t]? = some (P.rot (chipAt u t) x) := by
  induction n generalizing u t with
  | zero => omega
  | succ n ih =>
    have hnext : (u.gensym Config.chipBits).2 = afterChips 1 u := rfl
    cases t with
    | zero => rw [symbolChips, List.getElem?_cons_zero, chipIndex_gensym_two]
    | succ t =>
      rw [symbolChips, List.getElem?_cons_succ, hnext, ih _ (by omega), chipAt_afterChips, Nat.add_comm 1]

/-- The payload phase, index by index: input `t` belongs to symbol `t / 256` (R134, R136). -/
theorem payloadInputs_getElem? (P : Config.Params) (xs : List Sample) (u : SsUnit) (t : Nat) :
    (payloadInputs P xs u)[t]? = xs[t / 256]?.map (P.rot (chipAt u t)) := by
  induction xs generalizing u t with
  | nil => rfl
  | cons x xs ih =>
    rw [payloadInputs, List.getElem?_append, symbolChips_length, Config.sf]
    split
    · rename_i ht
      rw [symbolChips_getElem? P x u ht, Nat.div_eq_of_lt ht]
      rfl
    · rename_i ht
      obtain ⟨j, rfl⟩ : ∃ j, t = 256 + j := ⟨t - 256, by omega⟩
      rw [ih, Nat.add_sub_cancel_left, chipAt_afterChips, Nat.add_div_left j (by decide),
        List.getElem?_cons_succ]

/-- Input `t` of a write is `X[t]` (R141). -/
theorem frameInputs_getElem? (P : Config.Params) (s : State) {t : Nat} (ht : t < emitCount s.cfg.m) :
    (s.frameInputs P)[t]? = some (s.frameInputAt P t) := by
  rw [emitCount_eq] at ht
  have hpay := payloadInputs_length P s.psym.toList s.ss
  rw [Vector.length_toList] at hpay
  rw [State.frameInputs, List.getElem?_append, Vector.length_toList, State.frameInputAt, inputAt]
  split
  case isTrue hpre => simp [Vector.getD, hpre]
  case isFalse hpre =>
    rw [List.getElem?_append, hpay]
    split
    case isTrue hchip =>
      have hsym : (t - 1024) / 256 < 630 := by omega
      rw [payloadInputs_getElem?, if_pos (by omega)]
      simp [Vector.getD, hsym]
    case isFalse hchip =>
      rw [if_neg (by omega), flushInputs, List.getElem?_replicate_of_lt (by omega)]

/-- Driving the interpolator over a list folds it over the stream the list holds. -/
theorem interpState_eq_interpAt (P : Config.Params) (q : IState) (X : Nat → Sample) (xs : List Sample)
    (hX : ∀ t < xs.length, xs[t]? = some (X t)) : P.interpState q xs = interpAt P q X xs.length := by
  induction xs using List.reverseRecOn with
  | nil => rfl
  | append_singleton xs x ih =>
    have hlast : x = X xs.length := by simpa using hX xs.length (by simp)
    have hinit : ∀ t < xs.length, xs[t]? = some (X t) := fun t ht => by
      rw [← hX t (by simp; omega), List.getElem?_append_left ht]
    rw [Config.Params.interpState_append, ih hinit, hlast, List.length_append]
    rfl

/-! ### What an operation that completes has done -/

/-- Every way an operation can complete, with its guard and the state it leaves: it only answers (an error, or a
query), or it does the work of its row. -/
inductive Effect (s : State) : Instr → State → Prop
  | answered (i : Instr) (st : Status) (d : Word32) : Effect s i (s.answer st d)
  | constructed :
      Effect s .fgConstruct (((if s.fsm.live then s.tearDown else s).build Config.params).answer .ok 0)
  | tornDown (hlive : s.fsm ≠ .dead) : Effect s .fgTeardown (s.tearDown.answer .ok 0)
  | assembled (hn pn : Bool) (b : Vector Byte 72) (hlive : s.fsm ≠ .dead)
      (hbytes : operandBytes s.txn s.hostBytes hn pn = some b) :
      Effect s (.fgAssemble hn pn) ((s.prepare Config.params b).answer .ok 0)
  | written (hphase : s.fsm = .assembled) (hcap : s.capOk = true) :
      Effect s .fgWrite ((s.stream Config.params).answer .ok 0)
  | ssCreated (c : SsCfg) (htriple : SsCfg.ofOperands s.txn.order s.txn.polynomial s.txn.seed = some c) :
      Effect s .ssCreate ({ s with ss := SsUnit.create c, ssCreated := true }.answer .ok 0)
  | ssReset (hcreated : s.ssCreated = true) : Effect s .ssReset ({ s with ss := s.ss.reset }.answer .ok 0)
  | ssAdvanced (hcreated : s.ssCreated = true) :
      Effect s .ssAdvance ({ s with ss := s.ss.advance.2 }.answer .ok (bitWord s.ss.advance.1))
  | ssDrawn (k : Nat) (hcreated : s.ssCreated = true) :
      Effect s (.ssGensym k) ({ s with ss := (s.ss.gensym k).2 }.answer .ok (s.ss.gensym k).1)

/-- An operation completes in one of the ways of `Effect`. -/
theorem effect_of_exec {i : Instr} {s t : State} (h : exec i s = .next t) : Effect s i t := by
  cases i with
  | fgConstruct =>
    rw [exec_fgConstruct] at h
    cases h
    exact .constructed
  | fgTeardown =>
    rw [exec_fgTeardown] at h
    split at h
    case isTrue hlive => cases h; exact .tornDown (Lifecycle.live_eq_true.1 hlive)
    case isFalse => cases h; exact .answered _ _ _
  | fgAssemble hn pn =>
    obtain ⟨-, he⟩ | ⟨hlive, b, hb, he⟩ | ⟨-, -, he⟩ := exec_fgAssemble_cases hn pn s
    · cases he.symm.trans h; exact .answered _ _ _
    · cases he.symm.trans h; exact .assembled hn pn b hlive hb
    · cases he.symm.trans h
  | fgWrite =>
    rw [exec_fgWrite] at h
    cases hf : s.fsm with
    | assembled =>
      simp only [hf] at h
      split at h
      case isTrue hcap => cases h; exact .written hf hcap
      case isFalse => cases h; exact .answered _ _ _
    | _ => simp only [hf] at h; cases h; exact .answered _ _ _
  | fgGetlen => rw [exec_fgGetlen] at h; split at h <;> cases h <;> exact .answered _ _ _
  | fgCopy => rw [exec_fgCopy] at h; split at h <;> cases h <;> exact .answered _ _ _
  | fgPrint => rw [exec_fgPrint] at h; split at h <;> cases h <;> exact .answered _ _ _
  | ssCreate =>
    rw [exec_ssCreate] at h
    split at h
    case h_1 c hc => cases h; exact .ssCreated c hc
    case h_2 => cases h
  | ssReset =>
    rw [exec_ssReset] at h
    split at h
    case isTrue hcreated => cases h; exact .ssReset hcreated
    case isFalse => cases h
  | ssAdvance =>
    rw [exec_ssAdvance] at h
    split at h
    case isTrue hcreated => cases h; exact .ssAdvanced hcreated
    case isFalse => cases h
  | ssGensym k =>
    rw [exec_ssGensym] at h
    split at h
    case isTrue hcreated => cases h; exact .ssDrawn k hcreated
    case isFalse => cases h

/-- A step keeps what accepting a transaction, answering, and every operation its port decodes keep. -/
theorem step_keeps {Inv : State → Prop}
    (haccept : ∀ s t rest, Inv s → Inv (s.accept t rest))
    (hrefuse : ∀ s, Inv s → Inv s.refuseIllegal)
    (hexec : ∀ i s t, Inv s → (∃ cmd, decode s.port cmd = .ok i) → Effect s i t → Inv t)
    {s s' : State} (hinv : Inv s) (hstep : step s = .next s') : Inv s' := by
  obtain ⟨-, rfl⟩ | ⟨t, rest, -, -, -, rfl⟩ | ⟨t, rest, i, -, hdecode, hrun⟩ := step_cases hstep
  · exact hinv
  · exact hrefuse _ (haccept s t rest hinv)
  · exact hexec i _ s' (haccept s t rest hinv) ⟨t.cmd, hdecode⟩ (effect_of_exec hrun)

/-! ### The preamble (R27) -/

/-- Settles O26, by the ways an operation can complete; and by the equation of `FG.CONSTRUCT`, whose preamble
is the parameters' alone. -/
theorem preambleIsConstructionsAlone : Obligations.PreambleIsConstructionsAlone := by
  refine ⟨fun i s t hconstruct hteardown h => ?_, fun s₁ s₂ t₁ t₂ h₁ h₂ => ?_⟩
  · cases effect_of_exec h with
    | constructed => exact absurd rfl hconstruct
    | tornDown => exact absurd rfl hteardown
    | _ => rfl
  · rw [exec_fgConstruct] at h₁ h₂
    cases h₁
    cases h₂
    rfl

/-! ### The SS unit's invariant (R21) -/

/-- A unit on its seed's cycle stays on it under any number of advances. -/
theorem ssInv_of_advances {s t : State} (n : Nat) (hinv : s.ssInv) (hcreated : t.ssCreated = s.ssCreated)
    (hunit : t.ss = ⟨s.ss.cfg, s.ss.cfg.adv n s.ss.v⟩) : t.ssInv := by
  intro ht
  obtain ⟨hlegal, k, hk⟩ := hinv (hcreated ▸ ht)
  rw [hunit]
  exact ⟨hlegal, k + n, by rw [SsCfg.adv_add, ← hk]⟩

/-- Every way of completing keeps the unit on its seed's cycle. -/
theorem effect_keeps_ssInv {i : Instr} {s t : State} (hinv : s.ssInv) (h : Effect s i t) : t.ssInv := by
  cases h with
  | answered => exact hinv
  | constructed =>
    intro _
    rw [State.answer_ss, State.build_ss, constructedUnit_eq]
    exact ⟨Config.params.ss_legal, 2048, rfl⟩
  | tornDown => exact fun h => absurd h Bool.false_ne_true
  | assembled => exact fun h => ⟨(hinv h).1, 0, rfl⟩
  | written => exact ssInv_of_advances 322560 hinv rfl (afterPayload_eq s.ss)
  | ssCreated c htriple =>
    obtain ⟨-, hlegal, -⟩ := SsCfg.ofOperands_eq_some.1 htriple
    exact fun _ => ⟨hlegal, 0, rfl⟩
  | ssReset hcreated => exact fun _ => ⟨(hinv hcreated).1, 0, rfl⟩
  | ssAdvanced => exact ssInv_of_advances 1 hinv rfl rfl
  | ssDrawn k => exact ssInv_of_advances k hinv rfl (SsUnit.gensym_unit k s.ss)

/-- Settles O51: the ways of completing keep the unit on its cycle, so a step does; and the cycle of a legal
triple lies in `1 .. 2^M - 1`. -/
theorem everyStepKeepsTheSsCycle : Obligations.EveryStepKeepsTheSsCycle := by
  refine ⟨fun s s' hinv hstep => ?_, fun s hinv hcreated => ?_⟩
  · exact step_keeps (fun _ _ _ h => h) (fun _ h => h) (fun _ _ _ h _ => effect_keeps_ssInv h) hinv hstep
  · obtain ⟨hlegal, n, hv⟩ := hinv hcreated
    rw [hv]
    exact SsCfg.adv_seed_range hlegal n

/-! ### The block's invariant (R36, R39 to R41) -/

/-- What each phase adds to the invariant of every live block. -/
def State.phaseInv (P : Config.Params) (s : State) : Prop :=
  match s.fsm with
  | .dead => True
  | .created => s.liveInv P ∧ s.createdInv P
  | .assembled => s.liveInv P ∧ s.assembledInv P
  | .streamed => s.liveInv P ∧ s.streamedInv P

/-- The block's invariant, phase by phase. -/
theorem State.inv_iff (s : State) : s.inv ↔ s.isBlock ∧ s.phaseInv Config.params := by
  unfold State.inv State.phaseInv
  cases s.fsm <;> simp [Lifecycle.live]

/-- The answer on the port is no part of the invariant. -/
theorem inv_answer (s : State) {st : Status} {d : Word32} (hblock : s.isBlock)
    (hphase : s.phaseInv Config.params) : (s.answer st d).inv :=
  (State.inv_iff _).2 ⟨hblock, hphase⟩

/-- Construction, an assemble and a write leave a register of the seed's cycle: R39's clauses on the SS unit. -/
theorem liveInv_of_adv {P : Config.Params} {s : State} (n : Nat) (hcreated : s.ssCreated = true)
    (hpre : s.pre = preamble P) (hcfg : s.cfg = ⟨Config.filtDelay, Config.filtBeta⟩)
    (hunit : s.ss = ⟨P.ss, P.ss.adv n P.ss.seed⟩) : s.liveInv P := by
  obtain ⟨hlo, hhi⟩ := SsCfg.adv_seed_range P.ss_legal n
  rw [State.liveInv, hunit]
  exact ⟨hcreated, hpre, hcfg, rfl, hlo, hhi⟩

/-- `FG.CONSTRUCT` leaves a created block's phase (R36, R110). -/
theorem build_phaseInv (P : Config.Params) (s : State) : (s.build P).phaseInv P := by
  have hunit : (s.build P).ss = ⟨P.ss, P.ss.adv 2048 P.ss.seed⟩ := constructedUnit_eq P
  exact ⟨liveInv_of_adv 2048 rfl rfl rfl hunit, by rw [hunit], rfl⟩

/-- `FG.ASSEMBLE` leaves the clean phase (R40). -/
theorem prepare_phaseInv {P : Config.Params} {s : State} (b : Vector Byte 72) (hlive : s.liveInv P) :
    (s.prepare P b).phaseInv P := by
  obtain ⟨hcreated, hpre, hcfg, htriple, -, -⟩ := hlive
  have hunit : (s.prepare P b).ss = ⟨P.ss, P.ss.adv 0 P.ss.seed⟩ := by
    rw [State.prepare_ss, SsUnit.reset, htriple]
    rfl
  exact ⟨liveInv_of_adv 0 hcreated hpre hcfg hunit, by rw [hunit]; rfl, rfl, rfl, rfl⟩

/-- `FG.WRITE` from the clean phase leaves the streamed one (R41, R139). -/
theorem stream_phaseInv {P : Config.Params} {s : State} (hlive : s.liveInv P) (hclean : s.assembledInv P) :
    (s.stream P).phaseInv P := by
  obtain ⟨hcreated, hpre, hcfg, htriple, -, -⟩ := hlive
  obtain ⟨hseed, hist, hsym, hpsym⟩ := hclean
  have hss : s.ss = SsUnit.create P.ss := by
    rw [SsUnit.create, ← hseed, ← htriple]
  have hunit : (s.stream P).ss = ⟨P.ss, P.ss.adv 322560 P.ss.seed⟩ := by
    rw [State.stream_ss, hss, afterPayload_eq]
    rfl
  have hinterp : (s.stream P).ist =
      interpAt P P.iInit (inputAt P (SsUnit.create P.ss) s.pre s.psym) (emitCount s.cfg.m) := by
    rw [State.stream_ist, interpState_eq_interpAt P s.ist (s.frameInputAt P) (s.frameInputs P) (fun t ht =>
      frameInputs_getElem? P s (frameInputs_length P s ▸ ht)), frameInputs_length, hist, ← hss]
    rfl
  exact ⟨liveInv_of_adv 322560 hcreated hpre hcfg hunit, by rw [hunit], hinterp, hsym, hpsym⟩

/-- Every way in which an FG operation can complete keeps the block's invariant. -/
theorem effect_keeps_inv {i : Instr} {s t : State} (hhost : i.port = .host) (hinv : s.inv) (h : Effect s i t) :
    t.inv := by
  have hblock : s.isBlock := hinv.1
  cases h with
  | answered => exact hinv
  | constructed =>
    have hkept : (if s.fsm.live then s.tearDown else s).isBlock := by split <;> exact hblock
    exact inv_answer _ hkept (build_phaseInv _ _)
  | tornDown => exact inv_answer _ hblock trivial
  | assembled hn pn b hlive =>
    obtain ⟨-, hliveInv, -⟩ := hinv
    exact inv_answer _ hblock (prepare_phaseInv b (hliveInv (Lifecycle.live_eq_true.2 hlive)))
  | written hphase =>
    obtain ⟨-, hliveInv, -, hclean, -⟩ := hinv
    have hlive : s.fsm.live = true := by rw [hphase]; rfl
    exact inv_answer _ hblock (stream_phaseInv (hliveInv hlive) (hclean hphase))
  | ssCreated | ssReset | ssAdvanced | ssDrawn => cases hhost

/-- Settles O50: a block's host reaches FG operations only (R71), and each of them keeps the invariant. -/
theorem everyStepKeepsTheBlockInvariant : Obligations.EveryStepKeepsTheBlockInvariant := by
  intro s s' hinv hstep
  refine step_keeps (fun _ _ _ h => h) (fun _ h => h) (fun i s t h hdecodes heffect => ?_) hinv hstep
  obtain ⟨cmd, hdecode⟩ := hdecodes
  rw [h.1] at hdecode
  exact effect_keeps_inv (decodeHost_port hdecode) h heffect

end Sys2Proof.Machine
end

section
/-! Host memory under the operations (R38, R52, R53). -/

namespace Sys2Proof.Machine

/-- Under D34 a write that passes the capacity check has room for the whole frame. -/
theorem outHolds_of_honest {s : State} (hcap : s.capOk = true) (hhonest : s.honestCapacity) :
    s.outHolds = true :=
  decide_eq_true ((of_decide_eq_true hcap).trans hhonest)

/-- A write into a buffer with room for the frame leaves host bytes alone (R53). -/
theorem bytesAfterWrite_of_outHolds {s : State} (h : s.outHolds = true) : s.bytesAfterWrite = s.hostBytes :=
  if_pos h

/-- No way of completing but a write's touches host memory (R38). -/
theorem effect_keeps_hostMemory {i : Instr} {s t : State} (h : Effect s i t) (hwrite : i ≠ .fgWrite) :
    t.hostSamples = s.hostSamples ∧ t.hostBytes = s.hostBytes := by
  cases h with
  | constructed =>
    rw [State.answer_hostSamples, State.answer_hostBytes, State.build_hostSamples, State.build_hostBytes]
    split
    case isTrue => exact ⟨State.tearDown_hostSamples s, State.tearDown_hostBytes s⟩
    case isFalse => exact ⟨rfl, rfl⟩
  | written => exact absurd rfl hwrite
  | answered | tornDown | assembled | ssCreated | ssReset | ssAdvanced | ssDrawn => exact ⟨rfl, rfl⟩

/-- With the capacity honestly declared, no way of completing touches a host byte (R53, D34). -/
theorem effect_keeps_hostBytes {i : Instr} {s t : State} (h : Effect s i t) (hhonest : s.honestCapacity) :
    t.hostBytes = s.hostBytes := by
  by_cases hwrite : i = .fgWrite
  · subst hwrite
    cases h with
    | answered => rfl
    | written _ hcap => exact bytesAfterWrite_of_outHolds (outHolds_of_honest hcap hhonest)
  · exact (effect_keeps_hostMemory h hwrite).2

/-- Settles O49, by the ways an operation can complete: a write's is the one that touches host memory, and the
check of the honestly declared capacity keeps it to samples. -/
theorem onlyWriteWritesHostMemory : Obligations.OnlyWriteWritesHostMemory := by
  intro i s t h
  have heffect : Effect s i t := effect_of_exec h
  exact ⟨effect_keeps_hostMemory heffect, effect_keeps_hostBytes heffect⟩

end Sys2Proof.Machine
end

section
/-! The command word by its two fields, and the decoder and encoder as inverses (R70, R72, R75, R77, R82). -/

namespace Sys2Proof

/-! ### The two fields of a command word (R70) -/

@[simp] theorem opField_append (op imm : BitVec 8) : opField (op ++ imm) = op :=
  BitVec.extractLsb'_append_eq_left

@[simp] theorem immField_append (op imm : BitVec 8) : immField (op ++ imm) = imm :=
  BitVec.extractLsb'_append_eq_right

/-- A command word is its two fields. -/
theorem opField_append_immField (cmd : CmdWord) : opField cmd ++ immField cmd = cmd := by
  have h := BitVec.extractLsb'_append_extractLsb'_eq_extractLsb' (x := cmd)
    (start₁ := 0) (len₁ := 8) (start₂ := 8) (len₂ := 8) rfl
  exact h.trans BitVec.extractLsb'_eq_self

theorem eq_append_iff_fields {cmd : CmdWord} {op imm : BitVec 8} :
    cmd = op ++ imm ↔ opField cmd = op ∧ immField cmd = imm := by
  constructor
  · rintro rfl
    exact ⟨opField_append op imm, immField_append op imm⟩
  · rintro ⟨rfl, rfl⟩
    exact (opField_append_immField cmd).symm

/-- The encoding of an operation is the word with its opcode and its immediate (R70, R80). -/
theorem encode_eq_iff {i : Instr} {cmd : CmdWord} :
    encode i = cmd ↔ opField cmd = i.opcode ∧ immField cmd = i.immediate :=
  eq_comm.trans eq_append_iff_fields

/-- The bits of a word from `k` up are 0 exactly when it is below `2^k`. -/
theorem extractLsb'_top_eq_zero_iff {w k n : Nat} (x : BitVec w) (hw : k + n = w) :
    x.extractLsb' k n = 0 ↔ x.toNat < 2 ^ k := by
  have hx : x.toNat / 2 ^ k < 2 ^ n := by
    rw [Nat.div_lt_iff_lt_mul (Nat.two_pow_pos k), ← Nat.pow_add, Nat.add_comm, hw]
    exact x.isLt
  rw [← BitVec.toNat_inj, BitVec.extractLsb'_toNat, Nat.shiftRight_eq_div_pow, Nat.mod_eq_of_lt hx,
    BitVec.ofNat_eq_ofNat, BitVec.toNat_ofNat, Nat.zero_mod, Nat.div_eq_zero_iff_lt (Nat.two_pow_pos k)]

/-! ### The two operations with an immediate (R75) -/

/-- `FG.ASSEMBLE` on the host port: two flags, every other immediate bit 0 (R75a). -/
theorem decodeHost_assemble (imm : BitVec 8) :
    decodeHost 0x03 imm =
      if imm.toNat < 4 then .ok (.fgAssemble (imm.getLsbD 0) (imm.getLsbD 1))
      else .error .reservedImmediate :=
  show (if imm.extractLsb' 2 6 = 0 then _ else _) = _ from
    if_congr (extractLsb'_top_eq_zero_iff imm rfl) rfl rfl

/-- `SS.GENSYM` on the SS port: a 5-bit count, every other immediate bit 0 (R75b). -/
theorem decodeSs_gensym (imm : BitVec 8) :
    decodeSs 0x13 imm =
      if imm.toNat < 32 then .ok (.ssGensym imm.toNat) else .error .reservedImmediate := by
  show (if imm.extractLsb' 5 3 = 0 then Except.ok (Instr.ssGensym (imm.extractLsb' 0 5).toNat) else _) = _
  refine ite_congr (propext (extractLsb'_top_eq_zero_iff imm rfl)) (fun hlt => ?_) (fun _ => rfl)
  rw [BitVec.extractLsb'_toNat, Nat.shiftRight_zero, Nat.mod_eq_of_lt hlt]

/-- An immediate below 4 is `PN || HN` of its own two low bits (R75a). -/
theorem assemble_immediate_of_lt {imm : BitVec 8} (hlt : imm.toNat < 4) :
    (Instr.fgAssemble (imm.getLsbD 0) (imm.getLsbD 1)).immediate = imm := by
  apply BitVec.eq_of_toNat_eq
  simp only [Instr.immediate, BitVec.toNat_ofNat, BitVec.getLsbD, Nat.toNat_testBit]
  omega

/-- The immediate of `SS.GENSYM` is its count (R75b). -/
theorem gensym_immediate_of_toNat (imm : BitVec 8) : (Instr.ssGensym imm.toNat).immediate = imm :=
  (BitVec.ofNat_toNat 8 imm).trans imm.setWidth_eq

/-! ### Decoding and encoding are inverse -/

/-- Settles O1, operation by operation; only the flags of `FG.ASSEMBLE` and the count of `SS.GENSYM` pass through
the immediate. -/
theorem decodeInvertsEncode : Obligations.DecodeInvertsEncode := by
  intro i hwf
  cases i with
  | fgAssemble hn pn =>
    cases hn <;> cases pn <;> rfl
  | ssGensym k =>
    have hk : k < 32 := Nat.lt_succ_of_le (of_decide_eq_true hwf)
    have himm : (Instr.ssGensym k).immediate.toNat = k :=
      Nat.mod_eq_of_lt (by omega)
    have hdecode : decode .ss (encode (.ssGensym k)) = decodeSs 0x13 (Instr.ssGensym k).immediate := by
      simp only [decode, encode, opField_append, immField_append, Instr.opcode]
    rw [Instr.port, hdecode, decodeSs_gensym, himm, if_pos hk]
  | _ => rfl

/-- What the host port's decoder reads has the word's opcode and immediate. -/
theorem decodeHost_fields {op imm : BitVec 8} {i : Instr} (h : decodeHost op imm = .ok i) :
    i.wellFormed = true ∧ op = i.opcode ∧ imm = i.immediate := by
  unfold decodeHost at h
  repeat' split at h
  all_goals simp only [needZeroImm_eq_ok, Except.ok.injEq, reduceCtorEq] at h
  on_goal 3 => -- `FG.ASSEMBLE`
    rename_i hop hzero
    rw [← h]
    exact ⟨rfl, hop, (assemble_immediate_of_lt ((extractLsb'_top_eq_zero_iff imm rfl).1 hzero)).symm⟩
  all_goals
    obtain ⟨himm, rfl⟩ := h
    exact ⟨rfl, ‹_›, himm⟩

/-- What the SS port's decoder reads is an SS operation with the word's opcode and immediate. -/
theorem decodeSs_fields {op imm : BitVec 8} {i : Instr} (h : decodeSs op imm = .ok i) :
    i.wellFormed = true ∧ i.port = .ss ∧ op = i.opcode ∧ imm = i.immediate := by
  by_cases hop : op = 0x13
  · subst hop -- `SS.GENSYM`
    rw [decodeSs_gensym] at h
    split at h
    case isTrue hlt =>
      cases h
      exact ⟨decide_eq_true (Nat.le_of_lt_succ hlt), rfl, rfl, (gensym_immediate_of_toNat imm).symm⟩
    case isFalse => cases h
  · unfold decodeSs at h
    rw [if_neg hop] at h
    repeat' split at h
    all_goals simp only [needZeroImm_eq_ok, reduceCtorEq] at h
    all_goals
      obtain ⟨himm, rfl⟩ := h
      exact ⟨rfl, rfl, ‹_›, himm⟩

/-- Settles O2, port by port: the decoder of each port reads operations of its own, with the word's two fields. -/
theorem encodeInvertsDecode : Obligations.EncodeInvertsDecode := by
  intro p cmd i h
  cases p with
  | host =>
    obtain ⟨hwf, hop, himm⟩ := decodeHost_fields h
    exact ⟨hwf, decodeHost_port h, encode_eq_iff.2 ⟨hop, himm⟩⟩
  | ss =>
    obtain ⟨hwf, hport, hop, himm⟩ := decodeSs_fields h
    exact ⟨hwf, hport, encode_eq_iff.2 ⟨hop, himm⟩⟩

/-- Settles O5, by running the decoder on the eight words. -/
theorem specWordsDecode : Obligations.SpecWordsDecode := by
  unfold Obligations.SpecWordsDecode
  decide

end Sys2Proof
end

section
/-! The opcode map of R72 by masks, and the illegal words of each port (R75, R76, R77). -/

namespace Sys2Proof

/-! ### Masks of the opcode map (R72) -/

/-- How many low bits of the immediate carry the operation's operand (R75). -/
def Instr.operandBits : Instr → Nat
  | .fgAssemble _ _ => 2
  | .ssGensym _     => 5
  | _               => 0

/-- The operation's row of the opcode map: its mask leaves out the operand bits alone. -/
def Instr.row (i : Instr) : OpcodeRow :=
  ⟨i.mnemonic, i.port, BitVec.allOnes 16 <<< i.operandBits, i.opcode ++ 0#8⟩

theorem Instr.row_mem_opcodeTable (i : Instr) : i.row ∈ opcodeTable := by
  cases i with
  | fgAssemble => show (Instr.fgAssemble false false).row ∈ opcodeTable; decide
  | ssGensym => show (Instr.ssGensym 0).row ∈ opcodeTable; decide
  | _ => decide

/-- The opcode map has no row but those of the operations. -/
theorem exists_row_eq {r : OpcodeRow} (hr : r ∈ opcodeTable) : ∃ i : Instr, i.row = r := by
  have hrows : opcodeTable = [Instr.fgConstruct, .fgTeardown, .fgAssemble false false, .fgWrite, .fgGetlen, .fgCopy,
      .fgPrint, .ssCreate, .ssReset, .ssAdvance, .ssGensym 0].map Instr.row := by decide
  rw [hrows, List.mem_map] at hr
  obtain ⟨i, -, rfl⟩ := hr
  exact ⟨i, rfl⟩

theorem Instr.operandBits_le (i : Instr) : i.operandBits ≤ 8 := by
  cases i <;> exact of_decide_eq_true rfl

/-- A mask that leaves out the low `k` bits keeps the bits from `k` up. -/
theorem getLsbD_and_mask {w : Nat} (x : BitVec w) (k j : Nat) :
    (x &&& BitVec.allOnes w <<< k).getLsbD j = (x.getLsbD j && decide (k ≤ j)) := by
  rw [BitVec.getLsbD_and, BitVec.getLsbD_shiftLeft, BitVec.getLsbD_allOnes]
  by_cases hj : j < w
  · have hjk : j - k < w := by omega
    simp only [hj, hjk, decide_true, Bool.true_and, Bool.and_true, ← decide_not, Nat.not_lt]
  · simp only [BitVec.getLsbD_of_ge x j (Nat.le_of_not_lt hj), Bool.false_and]

/-- A mask that leaves out low bits of the immediate keeps the opcode. -/
theorem opField_and_mask (cmd : CmdWord) {k : Nat} (hk : k ≤ 8) :
    opField (cmd &&& BitVec.allOnes 16 <<< k) = opField cmd := by
  refine BitVec.eq_of_getLsbD_eq fun j hj => ?_
  have hkeep : k ≤ 8 + j := by omega
  simp only [opField, BitVec.getLsbD_extractLsb', getLsbD_and_mask, hkeep, decide_true, Bool.and_true]

/-- A mask that leaves out the low `k` bits acts on the immediate as one of 8 bits. -/
theorem immField_and_mask (cmd : CmdWord) (k : Nat) :
    immField (cmd &&& BitVec.allOnes 16 <<< k) = immField cmd &&& BitVec.allOnes 8 <<< k := by
  refine BitVec.eq_of_getLsbD_eq fun j hj => ?_
  simp only [immField, BitVec.getLsbD_extractLsb', getLsbD_and_mask, Nat.zero_add, Bool.and_assoc]

/-- Clearing the low `k` bits leaves 0 exactly when the word is below `2^k`. -/
theorem and_mask_eq_zero_iff {w : Nat} (x : BitVec w) (k : Nat) :
    x &&& BitVec.allOnes w <<< k = 0 ↔ x.toNat < 2 ^ k := by
  constructor
  · intro h
    refine Nat.lt_pow_two_of_testBit _ fun j hj => ?_
    have hbit : (x &&& BitVec.allOnes w <<< k).getLsbD j = false := by rw [h]; exact BitVec.getLsbD_zero
    rwa [getLsbD_and_mask, decide_eq_true hj, Bool.and_true] at hbit
  · intro h
    refine BitVec.eq_of_getLsbD_eq fun j _ => ?_
    rw [getLsbD_and_mask]
    by_cases hj : k ≤ j
    · have hbit : x.getLsbD j = false := Nat.testBit_lt_two_pow (h.trans_le (Nat.pow_le_pow_right Nat.two_pos hj))
      simp [hbit]
    · simp [hj]

/-- A word selects an operation's row exactly when it has the operation's opcode and no immediate bit above the
operand's (R72, R75). -/
theorem matches_row_iff {cmd : CmdWord} {i : Instr} :
    cmd &&& i.row.mask = i.row.pattern ↔
      opField cmd = i.opcode ∧ (immField cmd).toNat < 2 ^ i.operandBits := by
  rw [← and_mask_eq_zero_iff, ← immField_and_mask, ← opField_and_mask cmd i.operandBits_le]
  exact eq_append_iff_fields

/-- The immediate of a well-formed operation lies in its operand bits. -/
theorem Instr.immediate_lt {i : Instr} (hwf : i.wellFormed = true) : i.immediate.toNat < 2 ^ i.operandBits := by
  cases i with
  | fgAssemble hn pn => cases hn <;> cases pn <;> decide
  | ssGensym k =>
    have hk : k ≤ 31 := of_decide_eq_true hwf
    exact (Nat.mod_le k 256).trans_lt (Nat.lt_succ_of_le hk)
  | _ => exact Nat.one_pos

/-- Every value of the operand bits is the immediate of a well-formed operation of the row. -/
theorem Instr.exists_immediate_eq (i : Instr) {imm : BitVec 8} (hlt : imm.toNat < 2 ^ i.operandBits) :
    ∃ j : Instr, j.wellFormed = true ∧ j.row = i.row ∧ j.immediate = imm := by
  cases i with
  | fgAssemble => exact ⟨.fgAssemble (imm.getLsbD 0) (imm.getLsbD 1), rfl, rfl, assemble_immediate_of_lt hlt⟩
  | ssGensym =>
    exact ⟨.ssGensym imm.toNat, decide_eq_true (Nat.le_of_lt_succ hlt), rfl, gensym_immediate_of_toNat imm⟩
  | _ =>
    have himm : imm = 0 := BitVec.eq_of_toNat_eq (Nat.lt_one_iff.1 hlt)
    exact ⟨_, rfl, rfl, himm.symm⟩

/-- The words that select an operation's row are the encodings of that row's operations (R72). -/
theorem matches_row_iff_encodes {cmd : CmdWord} {i : Instr} :
    cmd &&& i.row.mask = i.row.pattern ↔ ∃ j : Instr, j.wellFormed = true ∧ j.row = i.row ∧ encode j = cmd := by
  constructor
  · intro h
    obtain ⟨hop, hlt⟩ := matches_row_iff.1 h
    obtain ⟨j, hwf, hrow, himm⟩ := i.exists_immediate_eq hlt
    have hpattern : j.opcode ++ 0#8 = i.opcode ++ 0#8 := congrArg OpcodeRow.pattern hrow
    have hopcode : j.opcode = i.opcode := by simpa using congrArg opField hpattern
    exact ⟨j, hwf, hrow, encode_eq_iff.2 ⟨hop.trans hopcode.symm, himm.symm⟩⟩
  · rintro ⟨j, hwf, hrow, hencode⟩
    obtain ⟨hop, himm⟩ := encode_eq_iff.1 hencode
    rw [← hrow, matches_row_iff, himm]
    exact ⟨hop, Instr.immediate_lt hwf⟩

/-- A port decodes a word exactly when the word selects a row of the port, and reads an operation of that row. -/
theorem matches_row_iff_decodes {cmd : CmdWord} {i : Instr} :
    cmd &&& i.row.mask = i.row.pattern ↔ ∃ j : Instr, j.row = i.row ∧ decode i.port cmd = .ok j := by
  rw [matches_row_iff_encodes]
  refine exists_congr fun j => ⟨?_, ?_⟩
  · rintro ⟨hwf, hrow, rfl⟩
    have hport : j.port = i.port := congrArg OpcodeRow.port hrow
    exact ⟨hrow, hport ▸ decodeInvertsEncode j hwf⟩
  · rintro ⟨hrow, hdecode⟩
    obtain ⟨hwf, -, hencode⟩ := encodeInvertsDecode _ _ _ hdecode
    exact ⟨hwf, hrow, hencode⟩

theorem row_eq_of_opField_eq :
    ∀ r ∈ opcodeTable, ∀ r' ∈ opcodeTable, opField r.pattern = opField r'.pattern → r = r' := by
  decide

/-- Settles O3: a word that decodes selects its operation's row, a word that selects a row decodes to an operation of
it, and the rows' opcodes are distinct. -/
theorem decodeFollowsMaskAndMatch : Obligations.DecodeFollowsMaskAndMatch := by
  refine ⟨fun p cmd i hdecode => ?_, fun p cmd r hr hport hmatch => ?_, fun cmd r hr r' hr' hmatch hmatch' => ?_⟩
  · obtain ⟨-, rfl, -⟩ := encodeInvertsDecode p cmd i hdecode
    exact ⟨i.row, i.row_mem_opcodeTable, rfl, matches_row_iff_decodes.2 ⟨i, rfl, hdecode⟩, rfl⟩
  · obtain ⟨i, rfl⟩ := exists_row_eq hr
    obtain ⟨j, hrow, hdecode⟩ := matches_row_iff_decodes.1 hmatch
    exact ⟨j, hport ▸ hdecode, congrArg OpcodeRow.mnemonic hrow⟩
  · refine row_eq_of_opField_eq r hr r' hr' ?_
    obtain ⟨i, rfl⟩ := exists_row_eq hr
    obtain ⟨i', rfl⟩ := exists_row_eq hr'
    obtain ⟨hop, -⟩ := matches_row_iff.1 hmatch
    obtain ⟨hop', -⟩ := matches_row_iff.1 hmatch'
    simp only [Instr.row, opField_append, ← hop, hop']

/-- Settles O4: the two equations of R75, and for every other operation the immediate of its encoding. -/
theorem immediateIsReadByField : Obligations.ImmediateIsReadByField := by
  refine ⟨fun cmd hop => ?_, fun cmd hop => ?_, fun p cmd i hdecode hassemble hgensym => ?_⟩
  · have h0 : (immField cmd).getLsbD 0 = cmd.getLsbD 0 := by simp [immField]
    have h1 : (immField cmd).getLsbD 1 = cmd.getLsbD 1 := by simp [immField]
    rw [decode, hop, decodeHost_assemble, h0, h1]
  · rw [decode, hop, decodeSs_gensym]
  · obtain ⟨-, -, hencode⟩ := encodeInvertsDecode p cmd i hdecode
    obtain ⟨hop, himm⟩ := encode_eq_iff.1 hencode
    rw [himm]
    cases i with
    | fgAssemble => exact absurd hop hassemble
    | ssGensym => exact absurd hop hgensym
    | _ => rfl

/-! ### Illegal words (R76, R77) -/

/-- The SS opcodes are illegal on the host port, whatever the immediate (R77). -/
theorem decode_host_of_ss_opcode {cmd : CmdWord} (hlo : 0x10 ≤ opField cmd) (hhi : opField cmd ≤ 0x13) :
    decode .host cmd = .error .wrongPort := by
  have hop : opField cmd = 0x10 ∨ opField cmd = 0x11 ∨ opField cmd = 0x12 ∨ opField cmd = 0x13 := by bv_omega
  obtain h | h | h | h := hop <;> rw [decode, h] <;> rfl

/-- The FG opcodes are illegal on the SS port, whatever the immediate (R77). -/
theorem decode_ss_of_fg_opcode {cmd : CmdWord} (hlo : 0x01 ≤ opField cmd) (hhi : opField cmd ≤ 0x07) :
    decode .ss cmd = .error .wrongPort := by
  have hop : opField cmd = 0x01 ∨ opField cmd = 0x02 ∨ opField cmd = 0x03 ∨ opField cmd = 0x04 ∨
      opField cmd = 0x05 ∨ opField cmd = 0x06 ∨ opField cmd = 0x07 := by bv_omega
  obtain h | h | h | h | h | h | h := hop <;> rw [decode, h] <;> rfl

/-- Opcode 0 is illegal on both ports (R77). -/
theorem decode_of_opField_zero (p : Port) {cmd : CmdWord} (hop : opField cmd = 0x00) :
    decode p cmd = .error .unknownOpcode := by
  cases p <;> rw [decode, hop] <;> rfl

/-- Settles O6, by the opcodes of each range and opcode 0. -/
theorem otherPortAndZeroOpcodeAreIllegal : Obligations.OtherPortAndZeroOpcodeAreIllegal :=
  ⟨fun _ => decode_host_of_ss_opcode, fun _ => decode_ss_of_fg_opcode, fun p _ => decode_of_opField_zero p,
    fun p => decode_of_opField_zero p rfl⟩

/-- A word matches no row of a port exactly when it misses every operation of the port, by its opcode or above its
operand bits (R76). -/
theorem matches_no_row_iff {p : Port} {cmd : CmdWord} :
    (∀ r ∈ opcodeTable, r.port = p → cmd &&& r.mask ≠ r.pattern) ↔
      ∀ i : Instr, i.port = p → opField cmd = i.opcode → 2 ^ i.operandBits ≤ (immField cmd).toNat := by
  constructor
  · intro h i hport hop
    by_contra hlt
    exact h i.row i.row_mem_opcodeTable hport (matches_row_iff.2 ⟨hop, Nat.lt_of_not_le hlt⟩)
  · intro h r hr hport hmatch
    obtain ⟨i, rfl⟩ := exists_row_eq hr
    obtain ⟨hop, hlt⟩ := matches_row_iff.1 hmatch
    exact absurd (h i hport hop) (Nat.not_le_of_lt hlt)

/-- A word that matches no row of its port does not decode there (R76). -/
theorem decode_eq_error_of_no_row {p : Port} {cmd : CmdWord}
    (h : ∀ r ∈ opcodeTable, r.port = p → cmd &&& r.mask ≠ r.pattern) : ∃ e, decode p cmd = .error e := by
  cases hdecode : decode p cmd with
  | error e => exact ⟨e, rfl⟩
  | ok i =>
    obtain ⟨-, rfl, -⟩ := encodeInvertsDecode p cmd i hdecode
    exact absurd (matches_row_iff_decodes.2 ⟨i, rfl, hdecode⟩) (h i.row i.row_mem_opcodeTable rfl)

end Sys2Proof
end

section
/-! The block's refusal of illegal words, and the two ports kept apart (R71, R76, R77, R100). -/

namespace Sys2Proof.Machine

/-! ### The refusal of an illegal word (R76) -/

/-- One step on a word its port does not decode: the answer is the refusal, and no other state changes. -/
theorem step_of_decode_error {s : State} {t : Txn} {rest : List Txn} {e : Reject}
    (hp : s.pending = t :: rest) (hd : decode s.port t.cmd = .error e) :
    step s = .next { s with txn := t, pending := rest, resp := some ⟨.unsupportedOperation, 0⟩ } := by
  unfold step
  simp only [hp, hd]
  rfl

/-- The operations of the host port, for a property of the opcode and the operand width. -/
theorem forall_host_operation {C : BitVec 8 → Nat → Prop} :
    (∀ i : Instr, i.port = .host → C i.opcode i.operandBits) ↔
      C 0x01 0 ∧ C 0x02 0 ∧ C 0x03 2 ∧ C 0x04 0 ∧ C 0x05 0 ∧ C 0x06 0 ∧ C 0x07 0 := by
  constructor
  · intro h
    exact ⟨h .fgConstruct rfl, h .fgTeardown rfl, h (.fgAssemble false false) rfl, h .fgWrite rfl, h .fgGetlen rfl,
      h .fgCopy rfl, h .fgPrint rfl⟩
  · rintro ⟨hconstruct, hteardown, hassemble, hwrite, hgetlen, hcopy, hprint⟩ i hport
    cases i with
    | ssCreate | ssReset | ssAdvance | ssGensym => cases hport
    | _ => assumption

/-- The operations of the SS port, for a property of the opcode and the operand width. -/
theorem forall_ss_operation {C : BitVec 8 → Nat → Prop} :
    (∀ i : Instr, i.port = .ss → C i.opcode i.operandBits) ↔ C 0x10 0 ∧ C 0x11 0 ∧ C 0x12 0 ∧ C 0x13 5 := by
  constructor
  · intro h
    exact ⟨h .ssCreate rfl, h .ssReset rfl, h .ssAdvance rfl, h (.ssGensym 0) rfl⟩
  · rintro ⟨hcreate, hreset, hadvance, hgensym⟩ i hport
    cases i with
    | ssCreate | ssReset | ssAdvance | ssGensym => assumption
    | _ => cases hport

/-- The illegal words of the host port (R76, R77). -/
theorem matches_no_host_row_iff (cmd : CmdWord) :
    (∀ r ∈ opcodeTable, r.port = .host → cmd &&& r.mask ≠ r.pattern) ↔
      (opField cmd < 0x01 ∨ 0x07 < opField cmd) ∨
      (opField cmd = 0x03 ∧ 4 ≤ (immField cmd).toNat) ∨
      (0x01 ≤ opField cmd ∧ opField cmd ≤ 0x07 ∧ opField cmd ≠ 0x03 ∧ immField cmd ≠ 0) := by
  rw [matches_no_row_iff,
    forall_host_operation (C := fun op k => opField cmd = op → 2 ^ k ≤ (immField cmd).toNat)]
  bv_omega

/-- The illegal words of the SS port (R76, R77). -/
theorem matches_no_ss_row_iff (cmd : CmdWord) :
    (∀ r ∈ opcodeTable, r.port = .ss → cmd &&& r.mask ≠ r.pattern) ↔
      (opField cmd < 0x10 ∨ 0x13 < opField cmd) ∨
      (opField cmd = 0x13 ∧ 32 ≤ (immField cmd).toNat) ∨
      (0x10 ≤ opField cmd ∧ opField cmd ≤ 0x12 ∧ immField cmd ≠ 0) := by
  rw [matches_no_row_iff,
    forall_ss_operation (C := fun op k => opField cmd = op → 2 ^ k ≤ (immField cmd).toNat)]
  bv_omega

/-- Settles O8: a word that matches no row does not decode and is refused; and which words match none. -/
theorem illegalWordIsRefusedByTheBlock : Obligations.IllegalWordIsRefusedByTheBlock := by
  refine ⟨fun s t rest hp hnone => ?_, matches_no_host_row_iff, matches_no_ss_row_iff⟩
  obtain ⟨e, hd⟩ := decode_eq_error_of_no_row hnone
  exact step_of_decode_error hp hd

/-! ### The two ports kept apart (R71, R100) -/

/-- No way of completing changes the port (R71). -/
theorem effect_keeps_port {i : Instr} {s t : State} (h : Effect s i t) : t.port = s.port := by
  cases h with
  | constructed =>
    rw [State.answer_port, State.build_port]
    split <;> rfl
  | answered | tornDown | assembled | written | ssCreated | ssReset | ssAdvanced | ssDrawn => rfl

/-- No step changes the port (R71). -/
theorem step_keeps_port {s s' : State} (h : step s = .next s') : s'.port = s.port :=
  step_keeps (Inv := fun u => u.port = s.port) (fun _ _ _ hport => hport) (fun _ hport => hport)
    (fun _ _ _ hport _ heffect => (effect_keeps_port heffect).trans hport) rfl h

/-- Only four FG operations drive a block's SS unit: those that construct, end, assemble and write (R100). -/
theorem effect_changes_ss {i : Instr} {s t : State} (hhost : i.port = .host) (h : Effect s i t)
    (hchange : t.ss ≠ s.ss ∨ t.ssCreated ≠ s.ssCreated) :
    i = .fgConstruct ∨ i = .fgTeardown ∨ (∃ hn pn, i = .fgAssemble hn pn) ∨ i = .fgWrite := by
  cases h with
  | answered => exact absurd hchange (not_or.2 ⟨not_not.2 rfl, not_not.2 rfl⟩)
  | constructed => exact .inl rfl
  | tornDown => exact .inr (.inl rfl)
  | assembled hn pn => exact .inr (.inr (.inl ⟨hn, pn, rfl⟩))
  | written => exact .inr (.inr (.inr rfl))
  | ssCreated | ssReset | ssAdvanced | ssDrawn => cases hhost

/-- `t` differs from `s` in the SS unit, the port's lines and the answer at most. -/
def State.SameButSsUnit (s t : State) : Prop :=
  t = { s with ss := t.ss, ssCreated := t.ssCreated, txn := t.txn, pending := t.pending, resp := t.resp }

/-- An SS operation changes nothing but the SS unit and the answer (R38). -/
theorem effect_sameButSsUnit {i : Instr} {s t : State} (hss : i.port = .ss) (h : Effect s i t) :
    s.SameButSsUnit t := by
  cases h with
  | constructed | tornDown | assembled | written => cases hss
  | answered | ssCreated | ssReset | ssAdvanced | ssDrawn => rfl

/-- Accepting a transaction changes lines of the port alone, which `SameButSsUnit` leaves free. -/
theorem State.SameButSsUnit.of_accept {s t : State} {x : Txn} {rest : List Txn}
    (h : (s.accept x rest).SameButSsUnit t) : s.SameButSsUnit t := h

/-- A step of an SS unit on its own changes nothing but the unit, the port's lines and the answer (R38, R71). -/
theorem step_sameButSsUnit {s s' : State} (hport : s.port = .ss) (h : step s = .next s') : s.SameButSsUnit s' := by
  obtain ⟨-, rfl⟩ | ⟨t, rest, -, -, -, rfl⟩ | ⟨t, rest, i, -, hdecode, hrun⟩ := step_cases h
  · rfl
  · rfl
  · obtain ⟨-, hi, -⟩ := encodeInvertsDecode _ _ _ hdecode
    exact (effect_sameButSsUnit (hi.trans hport) (effect_of_exec hrun)).of_accept

/-- A step of a block that changes its SS unit ran one of the four FG operations that drive it (R100). -/
theorem step_changes_ss {s s' : State} (hport : s.port = .host) (h : step s = .next s')
    (hchange : s'.ss ≠ s.ss ∨ s'.ssCreated ≠ s.ssCreated) :
    ∃ t rest i, s.pending = t :: rest ∧ decode .host t.cmd = .ok i ∧
      (i = .fgConstruct ∨ i = .fgTeardown ∨ (∃ hn pn, i = .fgAssemble hn pn) ∨ i = .fgWrite) := by
  have hunchanged : ¬ (s.ss ≠ s.ss ∨ s.ssCreated ≠ s.ssCreated) := by simp
  obtain ⟨-, rfl⟩ | ⟨t, rest, -, -, -, rfl⟩ | ⟨t, rest, i, hp, hdecode, hrun⟩ := step_cases h
  · exact absurd hchange hunchanged
  · exact absurd hchange hunchanged
  · rw [hport] at hdecode
    exact ⟨t, rest, i, hp, hdecode, effect_changes_ss (decodeHost_port hdecode) (effect_of_exec hrun) hchange⟩

/-- Settles O9: each port refuses the other's opcodes (R77), and the ways an operation of the port can complete give
the rest. -/
theorem hostHasNoPathToTheSsPort : Obligations.HostHasNoPathToTheSsPort := by
  refine ⟨fun s t rest hport hp hlo hhi => ?_, fun s t rest hport hp hlo hhi => ?_,
    fun s s' hport => step_changes_ss hport, fun s s' hport => step_sameButSsUnit hport, fun s s' => step_keeps_port⟩
  · exact step_of_decode_error hp (hport ▸ decode_host_of_ss_opcode hlo hhi)
  · exact step_of_decode_error hp (hport ▸ decode_ss_of_fg_opcode hlo hhi)

end Sys2Proof.Machine
end

section
/-! The feedback structure of the sequence source (R93) and the cycle of a legal triple (R92). -/

/-! ### The feedback structure (R93) -/

namespace Sys2Proof

/-- The parity of the low bits, as a fold over their indices. -/
theorem parityBelow_eq_foldl (w : Word32) (n : Nat) :
    parityBelow w n = (List.range n).foldl (fun b q => b ^^ w.getLsbD q) false := by
  induction n with
  | zero => rfl
  | succ n ih => rw [List.range_succ, List.foldl_append, ← ih, parityBelow, Bool.xor_comm]; rfl

/-- Bits that are 0 from `m` on do not count in the parity. -/
theorem parityBelow_eq_of_zeros {w : Word32} {m n : Nat} (hmn : m ≤ n)
    (hzero : ∀ q, m ≤ q → w.getLsbD q = false) : parityBelow w n = parityBelow w m := by
  induction n, hmn using Nat.le_induction with
  | base => rfl
  | succ n hn ih => rw [parityBelow, hzero n hn, Bool.false_xor, ih]

/-- The bit out is the exclusive-or of the tapped bits of the register. -/
theorem SsCfg.lfsrOut_eq_foldl (c : SsCfg) (v : Word32) :
    c.lfsrOut v = (List.range 32).foldl (fun b q => b ^^ (v.getLsbD q && c.poly.getLsbD q)) false := by
  simp only [SsCfg.lfsrOut_eq, parity, parityBelow_eq_foldl, BitVec.getLsbD_and]

/-- A mask below `2^M` taps the register's `M` bits only. -/
theorem SsCfg.lfsrOut_eq_foldl_order {c : SsCfg} (hpoly : c.poly.toNat < 2 ^ c.order.toNat) (v : Word32) :
    c.lfsrOut v =
      (List.range c.order.toNat).foldl (fun b q => b ^^ (v.getLsbD q && c.poly.getLsbD q)) false := by
  have horder : c.order.toNat < 32 := c.order.isLt
  have hzero (q : Nat) (hq : c.order.toNat ≤ q) : (v &&& c.poly).getLsbD q = false := by
    have htap : c.poly.getLsbD q = false :=
      Nat.testBit_lt_two_pow (hpoly.trans_le (Nat.pow_le_pow_right two_pos hq))
    rw [BitVec.getLsbD_and, htap, Bool.and_false]
  rw [SsCfg.lfsrOut_eq, parity, parityBelow_eq_of_zeros horder.le hzero, parityBelow_eq_foldl]
  simp only [BitVec.getLsbD_and]

@[simp] theorem getLsbD_bitWord (b : Bool) (q : Nat) : (bitWord b).getLsbD q = (decide (q = 0) && b) := by
  cases b <;> simp [bitWord, BitVec.getLsbD_one]

/-- The register after an advance, bit by bit: the bit out enters at 0, the others move up, and the bits from `M` on
are cut. -/
theorem SsCfg.getLsbD_lfsrNext (c : SsCfg) (v : Word32) (q : Nat) :
    (c.lfsrNext v).getLsbD q =
      if q < c.order.toNat then (if q = 0 then c.lfsrOut v else v.getLsbD (q - 1)) else false := by
  have horder : c.order.toNat < 32 := c.order.isLt
  have hmask : (BitVec.ofNat 32 c.period).getLsbD q = decide (q < c.order.toNat) := by
    rw [BitVec.getLsbD_ofNat, SsCfg.period, Nat.testBit_two_pow_sub_one]
    simpa using fun hq : q < c.order.toNat => hq.trans horder
  rw [SsCfg.lfsrNext_eq, BitVec.getLsbD_and, hmask, BitVec.getLsbD_or, BitVec.getLsbD_shiftLeft, getLsbD_bitWord]
  by_cases hq : q < c.order.toNat
  · rcases q with - | q
    · simp [hq]
    · simp [hq, hq.trans horder]
  · simp [hq]

/-- Bit `q` of the register is the bit returned `q` advances before the last. -/
theorem SsCfg.getLsbD_adv_succ (c : SsCfg) (v : Word32) {t q : Nat} (hq : q < c.order.toNat) (hqt : q ≤ t) :
    (c.adv (t + 1) v).getLsbD q = c.lfsrOut (c.adv (t - q) v) := by
  induction q generalizing t with
  | zero => rw [SsCfg.adv_succ, SsCfg.getLsbD_lfsrNext, if_pos hq, if_pos rfl, Nat.sub_zero]
  | succ q ih =>
    obtain ⟨t, rfl⟩ : ∃ u, t = u + 1 := ⟨t - 1, by omega⟩
    rw [SsCfg.adv_succ, SsCfg.getLsbD_lfsrNext, if_pos hq, if_neg (Nat.succ_ne_zero q), Nat.add_sub_cancel,
      ih (by omega) (by omega), Nat.add_sub_add_right]

/-- The tap recurrence: from the `M`-th bit on, each bit out is the exclusive-or of the tapped earlier ones. -/
theorem SsCfg.lfsrOut_adv_eq_foldl {c : SsCfg} (v : Word32) {t : Nat} (hpoly : c.poly.toNat < 2 ^ c.order.toNat)
    (ht : c.order.toNat ≤ t) :
    c.lfsrOut (c.adv t v) = (List.range c.order.toNat).foldl
      (fun b q => b ^^ (c.poly.getLsbD q && c.lfsrOut (c.adv (t - 1 - q) v))) false := by
  rw [SsCfg.lfsrOut_eq_foldl_order hpoly]
  refine List.foldl_ext _ _ _ fun b q hq => ?_
  have hlt : q < c.order.toNat := List.mem_range.1 hq
  have hbit : (c.adv t v).getLsbD q = c.lfsrOut (c.adv (t - 1 - q) v) := by
    rw [← c.getLsbD_adv_succ v hlt (by omega), Nat.sub_add_cancel (by omega)]
  rw [hbit, Bool.and_comm]

/-- Settles O11, from the bit out as a fold, the register bit by bit, and the recurrence the two give. -/
theorem feedbackIsTheFibonacciRecurrence : Obligations.FeedbackIsTheFibonacciRecurrence :=
  ⟨SsCfg.lfsrOut_eq_foldl, SsCfg.getLsbD_lfsrNext, fun c v _ _ => c.getLsbD_adv_succ v,
    fun _ v _ => SsCfg.lfsrOut_adv_eq_foldl v⟩

/-! ### The cycle of a legal triple (R92) -/

/-- The period is the largest `M`-bit value. -/
theorem SsCfg.le_period_iff (c : SsCfg) (n : Nat) : n ≤ c.period ↔ n < 2 ^ c.order.toNat := by
  have hpow := Nat.two_pow_pos c.order.toNat
  rw [SsCfg.period]
  omega

/-- A period further on, the register is where it was. -/
theorem SsCfg.adv_add_period {c : SsCfg} (hmax : Machine.SsMaximal c) (n : Nat) :
    c.adv (n + c.period) c.seed = c.adv n c.seed := by
  rw [Nat.add_comm, SsCfg.adv_add, hmax.1]

/-- Every register value of the cycle comes back after a period. -/
theorem SsCfg.adv_period_adv {c : SsCfg} (hmax : Machine.SsMaximal c) (n : Nat) :
    c.adv c.period (c.adv n c.seed) = c.adv n c.seed := by
  rw [← SsCfg.adv_add, SsCfg.adv_add_period hmax]

/-- The seed comes back only after at least a period. -/
theorem SsCfg.period_le_of_adv_eq_seed {c : SsCfg} (hmax : Machine.SsMaximal c) {p : Nat} (hp : 0 < p)
    (hback : c.adv p c.seed = c.seed) : c.period ≤ p :=
  Nat.le_of_not_lt fun hlt => hmax.2 p hp hlt hback

/-- Within one period the register values are distinct: two equal ones would bring the seed back early. -/
theorem SsCfg.adv_seed_injOn {c : SsCfg} (hmax : Machine.SsMaximal c) :
    Set.InjOn (fun t => c.adv t c.seed) (Finset.range c.period : Set Nat) := by
  have hle (t u : Nat) (hu : u < c.period) (heq : c.adv t c.seed = c.adv u c.seed) : u ≤ t := by
    by_contra hlt
    have hback : c.adv (t + (c.period - u)) c.seed = c.seed := by
      rw [SsCfg.adv_add, heq, ← SsCfg.adv_add, Nat.add_sub_cancel' hu.le, hmax.1]
    have hperiod := SsCfg.period_le_of_adv_eq_seed hmax (by omega) hback
    omega
  intro t ht u hu heq
  have ht : t < c.period := by simpa using ht
  have hu : u < c.period := by simpa using hu
  exact le_antisymm (hle u t ht heq.symm) (hle t u hu heq)

/-- The `P` distinct values of the cycle fill `1 .. P`: every non-zero `M`-bit value is met. -/
theorem SsCfg.exists_adv_seed_eq {c : SsCfg} (hlegal : c.legal = true) {v : Word32} (hpos : 1 ≤ v.toNat)
    (hle : v.toNat ≤ c.period) : ∃ t < c.period, c.adv t c.seed = v := by
  obtain ⟨-, -, -, -, -, hmax⟩ := c.legal_iff.1 hlegal
  have hmaps : Set.MapsTo (fun t => (c.adv t c.seed).toNat) (Finset.range c.period) (Finset.Icc 1 c.period) :=
    fun t _ => by simpa using SsCfg.adv_seed_range hlegal t
  have hinj : Set.InjOn (fun t => (c.adv t c.seed).toNat) (Finset.range c.period : Set Nat) :=
    fun t ht u hu heq => SsCfg.adv_seed_injOn hmax ht hu (BitVec.eq_of_toNat_eq heq)
  have hcard : (Finset.Icc 1 c.period).card ≤ (Finset.range c.period).card := by simp
  obtain ⟨t, ht, heq⟩ := Finset.surjOn_of_injOn_of_card_le _ hmaps hinj hcard
    (Finset.mem_coe.2 (Finset.mem_Icc.2 ⟨hpos, hle⟩))
  exact ⟨t, by simpa using ht, BitVec.eq_of_toNat_eq heq⟩

/-- The register after `M` advances or more is the last `M` bits returned, so where those agree the registers do. -/
theorem SsCfg.adv_eq_of_bits_eq {c : SsCfg} {v w : Word32} {t u : Nat} (hpos : 0 < c.order.toNat)
    (ht : c.order.toNat ≤ t) (hu : c.order.toNat ≤ u)
    (hbits : ∀ q < c.order.toNat, c.lfsrOut (c.adv (t - 1 - q) v) = c.lfsrOut (c.adv (u - 1 - q) w)) :
    c.adv t v = c.adv u w := by
  obtain ⟨t, rfl⟩ : ∃ t', t = t' + 1 := ⟨t - 1, by omega⟩
  obtain ⟨u, rfl⟩ : ∃ u', u = u' + 1 := ⟨u - 1, by omega⟩
  refine BitVec.eq_of_getLsbD_eq fun q _ => ?_
  by_cases hq : q < c.order.toNat
  · rw [c.getLsbD_adv_succ v hq (by omega), c.getLsbD_adv_succ w hq (by omega)]
    exact hbits q hq
  · rw [SsCfg.adv_succ, SsCfg.adv_succ, SsCfg.getLsbD_lfsrNext, SsCfg.getLsbD_lfsrNext, if_neg hq, if_neg hq]

/-- A period of the sequence brings the register back: `M` whole periods on, the register is the seed, and it is the
same `M` bits as `p` advances later. -/
theorem SsCfg.adv_eq_seed_of_seqBit_periodic {c : SsCfg} (hlegal : c.legal = true) {p : Nat}
    (hperiodic : ∀ t, c.seqBit (t + p) = c.seqBit t) : c.adv p c.seed = c.seed := by
  obtain ⟨horder, -, -, -, -, hmax⟩ := c.legal_iff.1 hlegal
  have hlate : c.order.toNat ≤ c.order.toNat * c.period :=
    Nat.le_mul_of_pos_right _ (SsCfg.period_pos horder)
  have hwhole : c.adv (c.order.toNat * c.period) c.seed = c.seed := SsCfg.adv_mul_period hmax _
  generalize c.order.toNat * c.period = n at hlate hwhole
  calc c.adv p c.seed
      = c.adv (n + p) c.seed := by rw [SsCfg.adv_add, hwhole]
    _ = c.adv n c.seed := SsCfg.adv_eq_of_bits_eq (by omega) (by omega) hlate fun q hq => by
        rw [show n + p - 1 - q = n - 1 - q + p by omega]
        exact hperiodic (n - 1 - q)
    _ = c.seed := hwhole

/-- Settles O17: within a period the register values are distinct and so fill the non-zero `M`-bit values, and a
period of the sequence is one of the register, whose last `M` bits returned it holds. -/
theorem maximalLengthCycle : Obligations.MaximalLengthCycle := by
  intro c hlegal
  obtain ⟨-, -, -, -, -, hmax⟩ := c.legal_iff.1 hlegal
  refine ⟨hmax.1, hmax.2, fun t _ => ?_, fun v hpos hv => ?_, fun t => ?_, fun p hp hperiodic => ?_⟩
  · rw [← SsCfg.le_period_iff]
    exact SsCfg.adv_seed_range hlegal t
  · obtain ⟨t, ht, heq⟩ := SsCfg.exists_adv_seed_eq hlegal hpos ((c.le_period_iff _).2 hv)
    refine ⟨t, ht, heq, fun t' ht' heq' => ?_⟩
    exact SsCfg.adv_seed_injOn hmax (by simpa using ht') (by simpa using ht) (heq'.trans heq.symm)
  · rw [SsCfg.seqBit, SsCfg.adv_add_period hmax, SsCfg.seqBit]
  · exact SsCfg.period_le_of_adv_eq_seed hmax hp (SsCfg.adv_eq_seed_of_seqBit_periodic hlegal hperiodic)

end Sys2Proof
end

section
/-! The operations of the SS unit (R94 to R99, R101). -/

/-! ### The symbol of `SS.GENSYM` (R97, R98) -/

namespace Sys2Proof

/-- The loop of R97 with its last turn outermost: the last bit drawn is the least significant. -/
theorem SsUnit.gather_succ (k : Nat) (sym : Word32) (u : SsUnit) :
    (SsUnit.gather (k + 1) sym u).1 =
      (SsUnit.gather k sym u).1 <<< (1 : Nat) ||| bitWord (u.cfg.lfsrOut (u.cfg.adv k u.v)) := by
  induction k generalizing sym u with
  | zero => rfl
  | succ k ih => rw [SsUnit.gather, ih, SsCfg.adv_succ']; rfl

/-- The symbol of one more bit. -/
theorem SsUnit.gensym_succ (k : Nat) (u : SsUnit) :
    (u.gensym (k + 1)).1 =
      (u.gensym k).1 <<< (1 : Nat) ||| bitWord (u.cfg.lfsrOut (u.cfg.adv k u.v)) :=
  SsUnit.gather_succ k 0 u

/-- A symbol of `k` bits lies below `2^k`. -/
theorem symbolValue_lt (c : SsCfg) (v : Word32) (k : Nat) : Machine.symbolValue c v k < 2 ^ k := by
  induction k with
  | zero => exact Nat.one_pos
  | succ k ih =>
    have hbit := (c.lfsrOut (c.adv k v)).toNat_lt
    rw [Machine.symbolValue, Nat.pow_succ]
    omega

/-- The first bit drawn is the most significant: bit `k-1-j` of a symbol is the bit drawn after `j` advances. -/
theorem testBit_symbolValue (c : SsCfg) (v : Word32) {k j : Nat} (hj : j < k) :
    (Machine.symbolValue c v k).testBit (k - 1 - j) = c.lfsrOut (c.adv j v) := by
  induction k with
  | zero => omega
  | succ k ih =>
    rw [Machine.symbolValue, ← Nat.bit_val]
    obtain rfl | hlt := Nat.eq_or_lt_of_le (Nat.le_of_lt_succ hj)
    · rw [Nat.add_sub_cancel, Nat.sub_self, Nat.testBit_bit_zero]
    · rw [show k + 1 - 1 - j = k - 1 - j + 1 by omega, Nat.testBit_bit_succ, ih hlt]

/-- A symbol of `a + b` bits is the first `a` bits' symbol above the next `b` bits'. -/
theorem symbolValue_add (c : SsCfg) (v : Word32) (a b : Nat) :
    Machine.symbolValue c v (a + b) = Machine.symbolValue c v a * 2 ^ b + Machine.symbolValue c (c.adv a v) b := by
  induction b with
  | zero => simp [Machine.symbolValue]
  | succ b ih =>
    rw [← Nat.add_assoc, Machine.symbolValue, ih, Machine.symbolValue, SsCfg.adv_add, Nat.pow_succ]
    ring

/-- Taking one more bit in at the bottom doubles a word with a free top bit and adds the bit. -/
theorem toNat_shiftLeft_or_bitWord {x : Word32} (hx : x.toNat < 2 ^ 31) (b : Bool) :
    (x <<< (1 : Nat) ||| bitWord b).toNat = 2 * x.toNat + b.toNat := by
  have hbit : (bitWord b).toNat = b.toNat := by cases b <;> rfl
  have hdouble : (x <<< (1 : Nat)).toNat = 2 ^ 1 * x.toNat := by
    rw [BitVec.toNat_shiftLeft, Nat.shiftLeft_eq, Nat.mod_eq_of_lt (by omega), Nat.mul_comm]
  rw [BitVec.toNat_or, hbit, hdouble, ← Nat.two_pow_add_eq_or_of_lt b.toNat_lt, Nat.pow_one]

/-- `SS.GENSYM k` answers the symbol of its `k` bits; 32 bits have room for them (R97, R98). -/
theorem SsUnit.gensym_toNat (u : SsUnit) {k : Nat} (hk : k ≤ 32) :
    (u.gensym k).1.toNat = Machine.symbolValue u.cfg u.v k := by
  induction k with
  | zero => rfl
  | succ k ih =>
    have hsym := ih (by omega)
    have hroom : (u.gensym k).1.toNat < 2 ^ 31 := by
      rw [hsym]
      exact (symbolValue_lt u.cfg u.v k).trans_le (Nat.pow_le_pow_right two_pos (by omega))
    rw [SsUnit.gensym_succ, toNat_shiftLeft_or_bitWord hroom, hsym, Machine.symbolValue]

/-- The bits of the symbol of `SS.GENSYM k`, first drawn most significant. -/
theorem SsUnit.getLsbD_gensym (u : SsUnit) {k j : Nat} (hk : k ≤ 32) (hj : j < k) :
    (u.gensym k).1.getLsbD (k - 1 - j) = u.cfg.lfsrOut (u.cfg.adv j u.v) := by
  rw [← BitVec.testBit_toNat, u.gensym_toNat hk, testBit_symbolValue u.cfg u.v hj]

end Sys2Proof

namespace Sys2Proof.Machine

/-! ### `SS.CREATE` (R94) -/

/-- The precondition of R94 is the decided one, on an order that fits 5 bits. -/
theorem ssPrecondition_iff (order polynomial seed : Word32) :
    SsPrecondition order polynomial seed ↔
      order.toNat ≤ 31 ∧ SsCfg.legal ⟨order.setWidth 5, polynomial, seed⟩ = true := by
  unfold SsPrecondition
  rw [SsCfg.legal_iff, and_left_comm]
  refine and_congr_right fun horder => ?_
  have hwidth : (order.setWidth 5).toNat = order.toNat := by
    rw [BitVec.toNat_setWidth, Nat.mod_eq_of_lt (by omega)]
  simp only [SsCfg.le_period_iff, hwidth]

/-- The triple `SS.CREATE` latches, where the operands meet R94's precondition. -/
theorem ofOperands_of_precondition {order polynomial seed : Word32} (h : SsPrecondition order polynomial seed) :
    SsCfg.ofOperands order polynomial seed = some ⟨order.setWidth 5, polynomial, seed⟩ := by
  obtain ⟨horder, hlegal⟩ := (ssPrecondition_iff _ _ _).1 h
  exact SsCfg.ofOperands_eq_some.2 ⟨horder, hlegal, rfl⟩

/-- No operands that fail R94's precondition make a triple. -/
theorem ofOperands_of_not_precondition {order polynomial seed : Word32}
    (h : ¬ SsPrecondition order polynomial seed) : SsCfg.ofOperands order polynomial seed = none := by
  refine Option.eq_none_iff_forall_ne_some.2 fun c hc => h ?_
  obtain ⟨horder, hlegal, rfl⟩ := SsCfg.ofOperands_eq_some.1 hc
  exact (ssPrecondition_iff _ _ _).2 ⟨horder, hlegal⟩

/-- Settles O12: R94's precondition is what the operation decides. -/
theorem ssCreateLatchesTheTriple : Obligations.SsCreateLatchesTheTriple := by
  refine fun s => ⟨fun h => ?_, fun h => ?_⟩
  · rw [exec_ssCreate, ofOperands_of_precondition h]; rfl
  · rw [exec_ssCreate, ofOperands_of_not_precondition h]

/-! ### The operations of a created unit (R95 to R97, R101) -/

/-- `SS.RESET` on a created unit (R95). -/
theorem exec_ssReset_of_created {s : State} (h : s.ssCreated = true) :
    exec .ssReset s = .next ({ s with ss := s.ss.reset }.answer .ok 0) := by
  rw [exec_ssReset, if_pos h]

/-- `SS.ADVANCE` on a created unit (R96). -/
theorem exec_ssAdvance_of_created {s : State} (h : s.ssCreated = true) :
    exec .ssAdvance s = .next
      ({ s with ss := ⟨s.ss.cfg, s.ss.cfg.lfsrNext s.ss.v⟩ }.answer .ok (bitWord (s.ss.cfg.lfsrOut s.ss.v))) := by
  rw [exec_ssAdvance, if_pos h]; rfl

/-- `SS.GENSYM k` on a created unit (R97). -/
theorem exec_ssGensym_of_created {s : State} (k : Nat) (h : s.ssCreated = true) :
    exec (.ssGensym k) s = .next
      ({ s with ss := ⟨s.ss.cfg, s.ss.cfg.adv k s.ss.v⟩ }.answer .ok (s.ss.gensym k).1) := by
  rw [exec_ssGensym, if_pos h, SsUnit.gensym_unit]

/-- `SS.GENSYM 1` is `SS.ADVANCE` (R97), created or not. -/
theorem exec_ssGensym_one (s : State) : exec (.ssGensym 1) s = exec .ssAdvance s := by
  have hbit : (s.ss.gensym 1).1 = bitWord s.ss.advance.1 := by
    rw [SsUnit.gensym_succ]
    show 0#32 <<< (1 : Nat) ||| _ = _
    simp
  rw [exec_ssGensym, exec_ssAdvance, SsUnit.gensym_unit, hbit]
  rfl

/-- Settles O20, by the guard of each of the three operations. -/
theorem ssOperationsNeedACreatedUnit : Obligations.SsOperationsNeedACreatedUnit := by
  intro s h
  have hnot : ¬ s.ssCreated = true := by rw [h]; exact Bool.false_ne_true
  refine ⟨?_, ?_, fun k => ?_⟩
  · rw [exec_ssReset, if_neg hnot]
  · rw [exec_ssAdvance, if_neg hnot]
  · rw [exec_ssGensym, if_neg hnot]

/-! ### Runs -/

/-- A run goes on from the state its first operation answers. -/
theorem execAll_cons_of_next {i : Instr} {s t : State} (is : List Instr) (h : exec i s = .next t) :
    execAll (i :: is) s = execAll is t := by
  simp only [execAll, h]

/-- A run in two parts: the second goes on from the state the first answers. -/
theorem execAll_append_of_next {is : List Instr} {s t : State} (js : List Instr) (h : execAll is s = .next t) :
    execAll (is ++ js) s = execAll js t := by
  induction is generalizing s with
  | nil => cases h; rfl
  | cons i is ih =>
    rw [execAll] at h
    split at h
    case h_1 u hu => rw [List.cons_append, execAll_cons_of_next _ hu, ih h]
    case h_2 => cases h
    case h_3 => cases h

/-- A run of one operation is that operation. -/
theorem execAll_singleton {i : Instr} {s t : State} (h : exec i s = .next t) : execAll [i] s = .next t :=
  execAll_cons_of_next [] h

/-- Settles O13, by the equation of `SS.RESET`: it leaves a created unit at the seed, from where it may be reset again
or advanced. -/
theorem ssResetRewindsToTheSeed : Obligations.SsResetRewindsToTheSeed := by
  intro s hcreated
  have hreset := exec_ssReset_of_created hcreated
  refine ⟨hreset, ?_, ?_⟩
  · rw [execAll_cons_of_next _ hreset, hreset]
    exact execAll_singleton (exec_ssReset_of_created hcreated)
  · rw [execAll_cons_of_next _ hreset]
    exact ⟨_, execAll_singleton (exec_ssAdvance_of_created hcreated), rfl⟩

/-- Settles O14, by the equation of `SS.ADVANCE` and the cycle of a legal triple. -/
theorem ssAdvanceReturnsTheNextBit : Obligations.SsAdvanceReturnsTheNextBit := by
  intro s hcreated
  have hadvance := exec_ssAdvance_of_created hcreated
  refine ⟨hadvance, fun n hv => ?_⟩
  have hnext : s.ss.cfg.lfsrNext s.ss.v = s.ss.cfg.adv (n + 1) s.ss.cfg.seed := by rw [hv, SsCfg.adv_succ]
  have hbit : s.ss.cfg.lfsrOut s.ss.v = s.ss.cfg.seqBit n := by rw [hv, SsCfg.seqBit]
  rw [hnext, hbit] at hadvance
  refine ⟨_, hadvance, rfl, rfl, fun hlegal => ⟨SsCfg.adv_seed_ne_zero hlegal (n + 1), ?_⟩⟩
  obtain ⟨-, -, -, -, -, hmax⟩ := (SsCfg.legal_iff _).1 hlegal
  rw [hv]
  exact SsCfg.adv_period_adv hmax n

/-- Settles O15, by the equation of `SS.GENSYM` and the value and bits of its symbol. -/
theorem ssGensymPacksFirstBitHighest : Obligations.SsGensymPacksFirstBitHighest := by
  intro s k hcreated hk
  have hvalue := s.ss.gensym_toNat (k := k) (by omega)
  refine ⟨⟨(s.ss.gensym k).1, exec_ssGensym_of_created k hcreated, hvalue, ?_, fun j hj => ?_⟩,
    exec_ssGensym_of_created 0 hcreated, exec_ssGensym_one s⟩
  · rw [hvalue]
    exact symbolValue_lt _ _ _
  · exact s.ss.getLsbD_gensym (by omega) hj

/-! ### Draws one after another (R99) -/

/-- `t` is `s` with the SS unit `n` advances further on, as far as the unit goes. -/
def State.AdvancedBy (n : Nat) (s t : State) : Prop :=
  t.ssCreated = s.ssCreated ∧ t.ss = ⟨s.ss.cfg, s.ss.cfg.adv n s.ss.v⟩

/-- Advances of the unit add up over two runs. -/
theorem State.AdvancedBy.trans {m n : Nat} {s t u : State} (hst : s.AdvancedBy m t) (htu : t.AdvancedBy n u) :
    s.AdvancedBy (m + n) u := by
  obtain ⟨hcreated, hss⟩ := hst
  obtain ⟨hcreated', hss'⟩ := htu
  refine ⟨hcreated'.trans hcreated, ?_⟩
  rw [hss', hss, SsCfg.adv_add]

/-- One draw completes on a created unit and advances it by the bits it draws (R96, R97). -/
theorem exec_draw {i : Instr} {s : State} (hdraw : isDraw i = true) (hcreated : s.ssCreated = true) :
    ∃ t, exec i s = .next t ∧ s.AdvancedBy (drawnBits i) t := by
  cases i with
  | ssAdvance => exact ⟨_, exec_ssAdvance_of_created hcreated, rfl, rfl⟩
  | ssGensym k => exact ⟨_, exec_ssGensym_of_created k hcreated, rfl, rfl⟩
  | _ => cases hdraw

/-- A run of draws completes on a created unit and advances it by the bits they draw in all. -/
theorem execAll_draws {is : List Instr} {s : State} (hdraws : ∀ i ∈ is, isDraw i = true)
    (hcreated : s.ssCreated = true) :
    ∃ t, execAll is s = .next t ∧ s.AdvancedBy (is.map drawnBits).sum t := by
  induction is generalizing s with
  | nil => exact ⟨s, rfl, rfl, rfl⟩
  | cons i is ih =>
    obtain ⟨hi, his⟩ := List.forall_mem_cons.1 hdraws
    obtain ⟨t, hexec, hmove⟩ := exec_draw hi hcreated
    obtain ⟨u, hrun, hmoves⟩ := ih his (hmove.1.trans hcreated)
    exact ⟨u, by rw [execAll_cons_of_next is hexec, hrun], hmove.trans hmoves⟩

/-- `k` advances in a row move the unit `k` advances on. -/
theorem execAll_advances {s : State} (k : Nat) (hcreated : s.ssCreated = true) :
    ∃ t, execAll (List.replicate k .ssAdvance) s = .next t ∧ s.AdvancedBy k t := by
  have hdraws : ∀ i ∈ List.replicate k Instr.ssAdvance, isDraw i = true := fun i hi => by
    rw [List.eq_of_mem_replicate hi]; rfl
  have hbits : ((List.replicate k Instr.ssAdvance).map drawnBits).sum = k := by
    simp [drawnBits]
  obtain ⟨t, hrun, hmove⟩ := execAll_draws hdraws hcreated
  exact ⟨t, hrun, by rwa [hbits] at hmove⟩

/-- The last of `j + 1` advances answers the bit `j` advances on. -/
theorem execAll_advances_answers {s : State} (j : Nat) (hcreated : s.ssCreated = true) :
    ∃ t, execAll (List.replicate (j + 1) .ssAdvance) s = .next t ∧
      t.answers .ok (bitWord (s.ss.cfg.lfsrOut (s.ss.cfg.adv j s.ss.v))) := by
  obtain ⟨t, hrun, hcreated', hss⟩ := execAll_advances j hcreated
  have hlast := exec_ssAdvance_of_created (hcreated'.trans hcreated)
  rw [hss] at hlast
  exact ⟨_, by rw [List.replicate_succ', execAll_append_of_next _ hrun, execAll_singleton hlast], rfl⟩

/-- R99, `k` advances against one `SS.GENSYM k`. -/
theorem advances_agree_with_gensym {s : State} {k : Nat} (hcreated : s.ssCreated = true) (hk : k ≤ 31) :
    ∃ t u d, execAll (List.replicate k .ssAdvance) s = .next t ∧ exec (.ssGensym k) s = .next u ∧
      t.ss = u.ss ∧ u.answers .ok d ∧
      ∀ j, j < k → ∃ w, execAll (List.replicate (j + 1) .ssAdvance) s = .next w ∧
        w.answers .ok (bitWord (d.getLsbD (k - 1 - j))) := by
  obtain ⟨t, hrun, -, hss⟩ := execAll_advances k hcreated
  refine ⟨t, _, _, hrun, exec_ssGensym_of_created k hcreated, hss, rfl, fun j hj => ?_⟩
  rw [s.ss.getLsbD_gensym (by omega) hj]
  exact execAll_advances_answers j hcreated

/-- R99, `SS.GENSYM a` then `SS.GENSYM b` against `SS.GENSYM (a+b)`. -/
theorem gensym_then_gensym {s : State} {a b : Nat} (hcreated : s.ssCreated = true) (hab : a + b ≤ 31) :
    ∃ t u w x y z, exec (.ssGensym a) s = .next t ∧ exec (.ssGensym b) t = .next u ∧
      exec (.ssGensym (a + b)) s = .next w ∧ u.ss = w.ss ∧
      t.answers .ok x ∧ u.answers .ok y ∧ w.answers .ok z ∧ z.toNat = x.toNat * 2 ^ b + y.toNat := by
  refine ⟨_, _, _, _, _, _, exec_ssGensym_of_created a hcreated, exec_ssGensym_of_created b hcreated,
    exec_ssGensym_of_created (a + b) hcreated, ?_, rfl, rfl, rfl, ?_⟩
  · simp only [State.answer_ss, SsCfg.adv_add]
  · rw [SsUnit.gensym_toNat _ (by omega), SsUnit.gensym_toNat _ (by omega), SsUnit.gensym_toNat _ (by omega)]
    exact symbolValue_add s.ss.cfg s.ss.v a b

/-- R99, after `SS.RESET` only the number of bits drawn counts. -/
theorem reset_then_draws {s : State} {is : List Instr} (hcreated : s.ssCreated = true)
    (hdraws : ∀ i ∈ is, isDraw i = true) :
    ∃ t, execAll (.ssReset :: is) s = .next t ∧ t.ss.cfg = s.ss.cfg ∧
      t.ss.v = s.ss.cfg.adv ((is.map drawnBits).sum) s.ss.cfg.seed := by
  have hreset := exec_ssReset_of_created hcreated
  obtain ⟨t, hrun, -, hss⟩ := execAll_draws
    (s := { s with ss := s.ss.reset }.answer .ok 0) hdraws hcreated
  exact ⟨t, by rw [execAll_cons_of_next is hreset, hrun], by rw [hss]; rfl, by rw [hss]; rfl⟩

/-- Settles O16: a run of draws moves the unit by the bits drawn, its symbols are the sequence's bits packed, and the
register repeats with the period. -/
theorem ssDrawsCompose : Obligations.SsDrawsCompose := by
  refine ⟨fun _ _ => advances_agree_with_gensym, fun _ _ _ => gensym_then_gensym, fun _ _ => reset_then_draws,
    fun c n hlegal => ?_⟩
  obtain ⟨-, -, -, -, -, hmax⟩ := c.legal_iff.1 hlegal
  exact SsCfg.adv_add_period hmax n

end Sys2Proof.Machine
end

section
/-! `FG.TEARDOWN` and `FG.CONSTRUCT` one after the other, and what a dead block answers (R111, R114). -/

namespace Sys2Proof.Machine

/-! ### Each of the two, live and dead -/

/-- `FG.TEARDOWN` on a live block (R114). -/
theorem exec_fgTeardown_of_live {s : State} (hlive : s.fsm ≠ .dead) :
    exec .fgTeardown s = .next (s.tearDown.answer .ok 0) := by
  rw [exec_fgTeardown, if_pos (Lifecycle.live_eq_true.2 hlive)]

/-- `FG.CONSTRUCT` on a live block tears down first (R111). -/
theorem exec_fgConstruct_of_live {s : State} (hlive : s.fsm ≠ .dead) :
    exec .fgConstruct s = .next ((s.tearDown.build Config.params).answer .ok 0) := by
  rw [exec_fgConstruct, if_pos (Lifecycle.live_eq_true.2 hlive)]

/-- `FG.CONSTRUCT` on a dead block only builds (R110). -/
theorem exec_fgConstruct_of_dead {s : State} (hdead : s.fsm = .dead) :
    exec .fgConstruct s = .next ((s.build Config.params).answer .ok 0) := by
  rw [exec_fgConstruct, if_neg (by rw [hdead]; decide)]

/-- A dead block answers every host operation but `FG.CONSTRUCT` with `InvalidConfiguration` (R114, R170). -/
theorem exec_host_of_dead {i : Instr} {s : State} (hdead : s.fsm = .dead) (hhost : i.port = .host)
    (hconstruct : i ≠ .fgConstruct) : exec i s = .next (s.raise .invalidConfiguration) := by
  have hnot : ¬ s.fsm.live = true := by rw [hdead]; decide
  cases i with
  | fgConstruct => exact absurd rfl hconstruct
  | fgTeardown => rw [exec_fgTeardown, if_neg hnot]
  | fgAssemble hn pn =>
    obtain ⟨-, hraise⟩ | ⟨hlive, -⟩ | ⟨hlive, -⟩ := exec_fgAssemble_cases hn pn s
    · exact hraise
    · exact absurd hdead hlive
    · exact absurd hdead hlive
  | fgWrite => rw [exec_fgWrite, hdead]
  | fgGetlen => rw [exec_fgGetlen, if_neg hnot]
  | fgCopy => rw [exec_fgCopy, if_neg hnot]
  | fgPrint => rw [exec_fgPrint, if_neg hnot]
  | ssCreate | ssReset | ssAdvance | ssGensym => cases hhost

/-! ### The two obligations -/

/-- Settles O24: the block torn down is dead, so the second operation builds on the state `FG.CONSTRUCT` itself goes
through; only the answer between the two differs, and the second answer replaces it. -/
theorem constructOnALiveBlockRebuilds : Obligations.ConstructOnALiveBlockRebuilds := by
  intro s hlive
  have hrebuild := exec_fgConstruct_of_live hlive
  have hbuild : exec .fgConstruct (s.tearDown.answer .ok 0) =
      .next ((s.tearDown.build Config.params).answer .ok 0) :=
    exec_fgConstruct_of_dead (s.tearDown_fsm)
  refine ⟨?_, _, hrebuild, rfl, rfl⟩
  rw [execAll_cons_of_next _ (exec_fgTeardown_of_live hlive), execAll_singleton hbuild, hrebuild]

/-- Settles O25, by the equation of `FG.TEARDOWN` on a live block and the one answer of a dead block. -/
theorem teardownEndsDead : Obligations.TeardownEndsDead := by
  refine ⟨by decide, fun s => ⟨fun hlive => ?_, fun hdead => exec_host_of_dead hdead rfl (by decide)⟩⟩
  have hteardown := exec_fgTeardown_of_live hlive
  exact ⟨_, hteardown, rfl, rfl, rfl, rfl, rfl, rfl, fun _ hhost hconstruct => exec_host_of_dead rfl hhost hconstruct⟩

end Sys2Proof.Machine
end

section
/-! `FG.ASSEMBLE`: the 72 bytes it takes, and what it leaves (R54, R121 to R126). -/

namespace Sys2Proof.Machine

/-! ### The bytes of the two operands (R54, R123) -/

/-- The index of a byte is one of the header's 8 or, from 8 on, one of the payload's 64 (R54). -/
theorem forall_byteIndex_iff {C : (k : Nat) → k < 72 → Prop} :
    (∀ k h, C k h) ↔ (∀ k (h : k < 8), C k (by omega)) ∧ (∀ k (h : k < 64), C (8 + k) (by omega)) := by
  refine ⟨fun hall => ⟨fun k _ => hall k _, fun k _ => hall (8 + k) _⟩, fun ⟨hhdr, hpld⟩ k h => ?_⟩
  rcases Nat.lt_or_ge k 8 with hk | hk
  · exact hhdr k hk
  · obtain ⟨j, rfl⟩ := Nat.exists_eq_add_of_le hk
    exact hpld j (by omega)

/-- A byte of the header, or of the draw. -/
theorem operandByte_header (t : Txn) (mem : Memory Byte) (hn pn : Bool) {k : Nat} (hk : k < 8) :
    operandByte t mem hn pn k = if hn then some t.fill[k] else mem.read (t.hdr + k) := by
  rw [operandByte, if_pos hk, Vector.getElem?_eq_getElem]

/-- A byte of the payload, or of the draw. -/
theorem operandByte_payload (t : Txn) (mem : Memory Byte) (hn pn : Bool) {k : Nat} (hk : k < 64) :
    operandByte t mem hn pn (8 + k) = if pn then some t.fill[8 + k] else mem.read (t.pld + k) := by
  rw [operandByte, if_neg (by omega), Vector.getElem?_eq_getElem, Nat.add_sub_cancel_left]

/-- The buffer `FG.ASSEMBLE` gets, operand by operand (R54, R121, R123). -/
theorem operandBytes_eq_some_iff {t : Txn} {mem : Memory Byte} {hn pn : Bool} {b : Vector Byte 72} :
    operandBytes t mem hn pn = some b ↔
      (∀ k (h : k < 8), if hn then b[k] = t.fill[k] else mem.read (t.hdr + k) = some b[k]) ∧
      (∀ k (h : k < 64), if pn then b[8 + k] = t.fill[8 + k] else mem.read (t.pld + k) = some b[8 + k]) := by
  rw [operandBytes, collect_eq_some, forall_byteIndex_iff]
  refine and_congr (forall₂_congr fun k hk => ?_) (forall₂_congr fun k hk => ?_)
  · rw [operandByte_header t mem hn pn hk]
    cases hn <;> simp [eq_comm]
  · rw [operandByte_payload t mem hn pn hk]
    cases pn <;> simp [eq_comm]

/-- `FG.ASSEMBLE` gets its buffer exactly when host memory holds the present operands: an absent one is drawn. -/
theorem operandBytes_isSome_iff {s : State} {hn pn : Bool} :
    (operandBytes s.txn s.hostBytes hn pn).isSome ↔ s.operandsReadable hn pn := by
  rw [operandBytes, collect_isSome, forall_byteIndex_iff]
  refine and_congr ?_ ?_
  · rw [forall₂_congr fun k hk => by rw [operandByte_header s.txn s.hostBytes hn pn hk]]
    cases hn <;> simp
  · rw [forall₂_congr fun k hk => by rw [operandByte_payload s.txn s.hostBytes hn pn hk]]
    cases pn <;> simp

/-! ### The operation on a live block -/

/-- `FG.ASSEMBLE` on a live block that gets its 72 bytes prepares the frame of those bytes (R121). -/
theorem exec_fgAssemble_of_live {s : State} {hn pn : Bool} {b : Vector Byte 72} (hlive : s.fsm ≠ .dead)
    (hbytes : operandBytes s.txn s.hostBytes hn pn = some b) :
    exec (.fgAssemble hn pn) s = .next ((s.prepare Config.params b).answer .ok 0) := by
  obtain ⟨hdead, -⟩ | ⟨-, c, hc, hexec⟩ | ⟨-, hnone, -⟩ := exec_fgAssemble_cases hn pn s
  · exact absurd hdead hlive
  · cases hbytes.symm.trans hc
    exact hexec
  · cases hbytes.symm.trans hnone

/-- An `FG.ASSEMBLE` that completes on a live block got 72 bytes and prepared the frame of them. -/
theorem exists_bytes_of_exec_fgAssemble {s t : State} {hn pn : Bool} (hlive : s.fsm ≠ .dead)
    (h : exec (.fgAssemble hn pn) s = .next t) :
    ∃ b, operandBytes s.txn s.hostBytes hn pn = some b ∧ t = (s.prepare Config.params b).answer .ok 0 := by
  obtain ⟨hdead, -⟩ | ⟨-, b, hb, hexec⟩ | ⟨-, -, hexec⟩ := exec_fgAssemble_cases hn pn s
  · exact absurd hdead hlive
  · cases hexec.symm.trans h
    exact ⟨b, hb, rfl⟩
  · cases hexec.symm.trans h

/-! ### The two obligations -/

/-- Settles O27: readable operands give the 72 bytes, and a live block prepares their frame; a dead block gives its
one answer. -/
theorem assemblePreparesTheFrame : Obligations.AssemblePreparesTheFrame := by
  refine ⟨by decide, fun s hn pn hdead => exec_host_of_dead hdead rfl (by simp), fun s hn pn hlive hreadable => ?_⟩
  obtain ⟨b, hbytes⟩ := Option.isSome_iff_exists.1 (operandBytes_isSome_iff.2 hreadable)
  obtain ⟨hheader, hpayload⟩ := operandBytes_eq_some_iff.1 hbytes
  exact ⟨b, hheader, hpayload, exec_fgAssemble_of_live hlive hbytes⟩

/-- Settles O29: the second block gets the same 72 bytes, and the frame prepared from them takes only `pre`, `cfg`
and `ss.cfg` from the state before. -/
theorem assembleForgetsThePast : Obligations.AssembleForgetsThePast := by
  intro s₁ s₂ t₁ hn pn hlive₁ hlive₂ htxn hmem hpre hcfg hss hexec
  obtain ⟨b, hbytes, rfl⟩ := exists_bytes_of_exec_fgAssemble hlive₁ hexec
  rw [htxn, hmem] at hbytes
  have hunit : s₂.ss.reset = s₁.ss.reset := by rw [SsUnit.reset, SsUnit.reset, hss]
  exact ⟨_, exec_fgAssemble_of_live hlive₂ hbytes, rfl, hunit, rfl, rfl, rfl, hpre.symm, rfl, hcfg.symm, rfl⟩

end Sys2Proof.Machine
end

section
/-! The samples and the interpolator state of one write in closed form (R132, R139, R141, R142). -/

namespace Sys2Proof.Machine

/-! ### Host memory (R52) -/

/-- A run of memory writes in two parts. -/
theorem Memory.writeRun_append {α : Type} (m : Memory α) (a : Nat) (l l' : List α) :
    m.writeRun a (l ++ l') = (m.writeRun a l).writeRun (a + l.length) l' := by
  induction l generalizing m a with
  | nil => rfl
  | cons v l ih =>
    rw [List.cons_append, Memory.writeRun_cons, ih, Memory.writeRun_cons, List.length_cons, Nat.add_right_comm,
      Nat.add_assoc]

/-! ### The interpolator over a stream (R142) -/

/-- `out[2t]` is `y0[t]` (R142). -/
theorem outputAt_even (P : Config.Params) (q : IState) (X : Nat → Sample) (t : Nat) :
    outputAt P q X (2 * t) = (P.iExec (interpAt P q X t) (X t)).2.1 := by
  rw [outputAt, if_pos (by omega), Nat.mul_div_cancel_left t two_pos]

/-- `out[2t+1]` is `y1[t]` (R142). -/
theorem outputAt_odd (P : Config.Params) (q : IState) (X : Nat → Sample) (t : Nat) :
    outputAt P q X (2 * t + 1) = (P.iExec (interpAt P q X t) (X t)).2.2 := by
  rw [outputAt, if_neg (by omega), show (2 * t + 1) / 2 = t by omega]

/-- The interpolator's state after `k` inputs depends on those inputs alone. -/
theorem interpAt_congr (P : Config.Params) (q : IState) {X Y : Nat → Sample} {k : Nat}
    (h : ∀ t < k, X t = Y t) : interpAt P q X k = interpAt P q Y k := by
  induction k with
  | zero => rfl
  | succ k ih => rw [interpAt, interpAt, ih fun t ht => h t (by omega), h k (by omega)]

/-- The first `2k` samples put out depend on the first `k` inputs alone. -/
theorem outputAt_congr (P : Config.Params) (q : IState) {X Y : Nat → Sample} {k n : Nat}
    (h : ∀ t < k, X t = Y t) (hn : n < 2 * k) : outputAt P q X n = outputAt P q Y n := by
  rw [outputAt, outputAt, interpAt_congr P q fun t ht => h t (by omega), h (n / 2) (by omega)]

/-- The samples put out over the first `k` inputs of a stream, in order. -/
def samplesUpTo (P : Config.Params) (q : IState) (X : Nat → Sample) (k : Nat) : List Sample :=
  (List.range (2 * k)).map (outputAt P q X)

/-- One more input puts out two more samples (R132). -/
theorem samplesUpTo_succ (P : Config.Params) (q : IState) (X : Nat → Sample) (k : Nat) :
    samplesUpTo P q X (k + 1) =
      samplesUpTo P q X k ++
        [(P.iExec (interpAt P q X k) (X k)).2.1, (P.iExec (interpAt P q X k) (X k)).2.2] := by
  simp only [samplesUpTo, Nat.mul_succ, List.range_succ, List.map_append, List.map_cons, List.map_nil,
    outputAt_even, outputAt_odd, List.append_assoc, List.cons_append, List.nil_append]

@[simp] theorem samplesUpTo_length (P : Config.Params) (q : IState) (X : Nat → Sample) (k : Nat) :
    (samplesUpTo P q X k).length = 2 * k := by
  rw [samplesUpTo, List.length_map, List.length_range]

/-- Sample `n` of them is `out[n]`. -/
theorem samplesUpTo_getElem? (P : Config.Params) (q : IState) (X : Nat → Sample) {k n : Nat} (hn : n < 2 * k) :
    (samplesUpTo P q X k)[n]? = some (outputAt P q X n) := by
  rw [samplesUpTo, List.getElem?_map, List.getElem?_range hn, Option.map_some]

/-- Driving the interpolator over a list puts out the samples of the stream the list holds. -/
theorem interpOut_eq_samplesUpTo (P : Config.Params) (q : IState) (X : Nat → Sample) (xs : List Sample)
    (hX : ∀ t < xs.length, xs[t]? = some (X t)) : P.interpOut q xs = samplesUpTo P q X xs.length := by
  induction xs using List.reverseRecOn with
  | nil => rfl
  | append_singleton xs x ih =>
    have hlast : x = X xs.length := by simpa using hX xs.length (by simp)
    have hinit : ∀ t < xs.length, xs[t]? = some (X t) := fun t ht => by
      rw [← hX t (by simp; omega), List.getElem?_append_left ht]
    rw [Config.Params.interpOut_append, ih hinit, interpState_eq_interpAt P q X xs hinit, List.length_append,
      List.length_singleton, samplesUpTo_succ, Config.Params.interpOut_cons, ← hlast,
      Config.Params.interpOut_nil]

/-! ### One write (R132, R139) -/

/-- The stream of a write begins with the preamble (R141). -/
theorem frameInputAt_pre (P : Config.Params) (s : State) {t : Nat} (h : t < 1024) :
    s.frameInputAt P t = s.pre.getD t P.zeroSample := if_pos h

/-- The spread payload follows (R136, R141). -/
theorem frameInputAt_pay (P : Config.Params) (s : State) {t : Nat} (hlo : 1024 ≤ t) (hhi : t < 162304) :
    s.frameInputAt P t = P.rot (chipAt s.ss (t - 1024)) (s.psym.getD ((t - 1024) / 256) P.zeroSample) := by
  rw [State.frameInputAt, inputAt, if_neg (by omega), if_pos hhi]

/-- The flush ends it (R137, R141). -/
theorem frameInputAt_flush (P : Config.Params) (s : State) {t : Nat} (h : 162304 ≤ t) :
    s.frameInputAt P t = P.zeroSample := by
  rw [State.frameInputAt, inputAt, if_neg (by omega), if_neg (by omega)]

/-- The inputs of a write are the first `T(m)` of the stream `X` of R141. -/
theorem frameInputs_hold_stream (P : Config.Params) (s : State) :
    ∀ t < (s.frameInputs P).length, (s.frameInputs P)[t]? = some (s.frameInputAt P t) := fun _ ht =>
  frameInputs_getElem? P s (frameInputs_length P s ▸ ht)

/-- The interpolator's state a write leaves (R139). -/
theorem interpState_frameInputs (P : Config.Params) (s : State) :
    P.interpState s.ist (s.frameInputs P) = interpAt P s.ist (s.frameInputAt P) (emitCount s.cfg.m) := by
  rw [interpState_eq_interpAt P s.ist _ _ (frameInputs_hold_stream P s), frameInputs_length]

/-- The samples a write puts out (R142). -/
theorem frameSamples_eq_samplesUpTo (P : Config.Params) (s : State) :
    s.frameSamples P = samplesUpTo P s.ist (s.frameInputAt P) (emitCount s.cfg.m) := by
  rw [State.frameSamples, interpOut_eq_samplesUpTo P s.ist _ _ (frameInputs_hold_stream P s), frameInputs_length]

/-- Host samples after a write into a buffer with room for the frame (R52). -/
theorem samplesAfterWrite_of_outHolds (P : Config.Params) {s : State} (h : s.outHolds = true) :
    s.samplesAfterWrite P =
      s.hostSamples.writeRun s.txn.out (samplesUpTo P s.ist (s.frameInputAt P) (emitCount s.cfg.m)) := by
  rw [State.samplesAfterWrite, if_pos h, frameSamples_eq_samplesUpTo]

/-- Entry `n` of the buffer after a write is `out[n]` (R142). -/
theorem read_stream_out (P : Config.Params) {s : State} (h : s.outHolds = true) {n : Nat}
    (hn : n < frameLen s.cfg.m) :
    (s.stream P).hostSamples.read (s.txn.out + n) = some (outputAt P s.ist (s.frameInputAt P) n) := by
  rw [State.stream_hostSamples, samplesAfterWrite_of_outHolds P h, Memory.read_writeRun, samplesUpTo_length,
    if_pos ⟨Nat.le_add_right _ _, Nat.add_lt_add_left hn _⟩, Nat.add_sub_cancel_left]
  exact samplesUpTo_getElem? P s.ist _ hn

/-- A write leaves every host sample outside `out[0 .. L-1]` as it was. -/
theorem read_stream_outside (P : Config.Params) {s : State} (h : s.outHolds = true) {a : Nat}
    (ha : a < s.txn.out ∨ s.txn.out + frameLen s.cfg.m ≤ a) :
    (s.stream P).hostSamples.read a = s.hostSamples.read a := by
  have hlen : frameLen s.cfg.m = 2 * emitCount s.cfg.m := rfl
  rw [State.stream_hostSamples, samplesAfterWrite_of_outHolds P h, Memory.read_writeRun_outside]
  rw [samplesUpTo_length]
  omega

end Sys2Proof.Machine
end

section
/-! `FG.WRITE`: its checks and its effect, and the policies that are not this hardware's (R131 to R146). -/

namespace Sys2Proof.Machine

/-! ### The operation, case by case (R131) -/

/-- The capacity check in the terms of R14. -/
theorem capOk_iff {s : State} : s.capOk = true ↔ frameLen s.cfg.m ≤ s.txn.cap.toNat := decide_eq_true_iff

/-- A write of a stale block (R131, R143, R145). -/
theorem exec_fgWrite_of_stale {s : State} (hphase : s.fsm = .created ∨ s.fsm = .streamed) :
    exec .fgWrite s = .next (s.raise .staleState) := by
  rw [exec_fgWrite]
  rcases hphase with hphase | hphase <;> rw [hphase]

/-- A write of an assembled block with too small a capacity (R131). -/
theorem exec_fgWrite_of_short {s : State} (hphase : s.fsm = .assembled)
    (hshort : s.txn.cap.toNat < frameLen s.cfg.m) : exec .fgWrite s = .next (s.raise .bufferTooSmall) := by
  have hcap : ¬ s.capOk = true := fun h => absurd (capOk_iff.1 h) (Nat.not_le_of_lt hshort)
  simp only [exec_fgWrite, hphase, if_neg hcap]

/-- A write of an assembled block that passes the capacity check (R132). -/
theorem exec_fgWrite_of_assembled {s : State} (hphase : s.fsm = .assembled) (hcap : s.capOk = true) :
    exec .fgWrite s = .next ((s.stream Config.params).answer .ok 0) := by
  simp only [exec_fgWrite, hphase, if_pos hcap]

/-- The answer that stands on the port has no part in a write (R32). -/
theorem exec_fgWrite_withResp (s : State) (r : Option Response) : exec .fgWrite (s.withResp r) = exec .fgWrite s := by
  rw [exec_fgWrite, exec_fgWrite, State.withResp_fsm]
  cases s.fsm with
  | assembled =>
    have hcap : (s.withResp r).capOk = s.capOk := rfl
    rw [hcap]
    rfl
  | dead | created | streamed => rfl

/-- Settles O30, by the equation of `FG.WRITE` in each phase. -/
theorem writeChecksInOrder : Obligations.WriteChecksInOrder := by
  intro s
  refine ⟨fun hdead => ?_, exec_fgWrite_of_stale, exec_fgWrite_of_short⟩
  exact exec_host_of_dead hdead rfl (by decide)

/-- Settles O31: the write runs, the unit moves by the payload's draws, the interpolator by the frame's inputs, and
the run of memory writes reaches no address outside the buffer's first `L(m)` entries. -/
theorem writeRunsWhole : Obligations.WriteRunsWhole := by
  intro s hphase hlen hhonest
  have hcap : s.capOk = true := capOk_iff.2 hlen
  have hroom : s.outHolds = true := outHolds_of_honest hcap hhonest
  exact ⟨_, exec_fgWrite_of_assembled hphase hcap, rfl, rfl, afterPayload_eq s.ss,
    interpState_frameInputs Config.params s, rfl, rfl, rfl, rfl, rfl, rfl, rfl, rfl,
    bytesAfterWrite_of_outHolds hroom, fun _ ha => read_stream_outside Config.params hroom ha⟩

/-- Settles O32: the loop nest's inputs are the stream `X`, and the run of memory writes puts sample `n` into
entry `n`. -/
theorem writeOutputIsTheClosedForm : Obligations.WriteOutputIsTheClosedForm := by
  intro s t hphase hlen hhonest hexec n hn
  have hcap : s.capOk = true := capOk_iff.2 hlen
  cases (exec_fgWrite_of_assembled hphase hcap).symm.trans hexec
  exact read_stream_out Config.params (outHolds_of_honest hcap hhonest) hn

/-- Settles O35: a refused write has changed the answer alone, which the next write does not read; and a write that
runs leaves what lies beyond the frame. -/
theorem shortCapacityMayBeRetried : Obligations.ShortCapacityMayBeRetried := by
  intro s t' hphase
  refine ⟨fun hshort => ?_, fun hlen => ?_, by rw [frameLen_eq]; omega⟩
  · exact ⟨_, exec_fgWrite_of_short hphase hshort, rfl,
      exec_fgWrite_withResp { s with txn := t' } (some ⟨.bufferTooSmall, 0⟩)⟩
  · have hcap : ({ s with txn := t' } : State).capOk = true := capOk_iff.2 hlen
    refine ⟨_, exec_fgWrite_of_assembled hphase hcap, rfl, rfl, fun hhonest n hn => ?_⟩
    exact read_stream_outside Config.params (outHolds_of_honest hcap hhonest) (.inr (Nat.add_le_add_left hn _))

/-! ### The other stale-write policies (R144) -/

/-- A policy that calls only `Created` stale lets an assembled or streamed block write. -/
theorem writeError_eq_none {pol : Config.StalePolicy} {s : State} (hpol : pol ≠ .forbid)
    (hphase : s.fsm = .assembled ∨ s.fsm = .streamed) (hcap : s.capOk = true) : writeError pol s = none := by
  have hlive : s.fsm.live = true := by rcases hphase with h | h <;> rw [h] <;> rfl
  have hstale : staleUnder pol s.fsm = false := by
    cases pol with
    | forbid => exact absurd rfl hpol
    | reference | autoReset => rcases hphase with h | h <;> rw [h] <;> rfl
  simp [writeError, hlive, hstale, hcap]

/-- A write its policy lets run streams the frame from the phase the policy sets. -/
theorem writeUnder_of_no_error {pol : Config.StalePolicy} {s : State} (P : Config.Params)
    (h : writeError pol s = none) : writeUnder pol P s = ((s.beforeStream pol P).stream P).answer .ok 0 := by
  rw [writeUnder, h]

/-- Settles O39: neither policy refuses the write, `REFERENCE` streams from the state as it is, and `AUTO_RESET` from
the state with `ist` and the SS unit reset. -/
theorem otherStalePoliciesRunFromTheirPhase : Obligations.OtherStalePoliciesRunFromTheirPhase := by
  intro P s hphase hcap hhonest
  have hroom : s.outHolds = true := outHolds_of_honest hcap hhonest
  rw [writeUnder_of_no_error P (writeError_eq_none (pol := .reference) (by decide) hphase hcap),
    writeUnder_of_no_error P (writeError_eq_none (pol := .autoReset) (by decide) hphase hcap)]
  refine ⟨fun n hn => ?_, congrArg SsUnit.v (afterPayload_eq s.ss), fun n hn => ?_,
    congrArg SsUnit.v (afterPayload_eq s.ss.reset)⟩
  · exact read_stream_out P hroom hn
  · exact read_stream_out P (s := s.beforeStream .autoReset P) hroom hn

end Sys2Proof.Machine
end

section
/-! What a frame depends on, and what it does not (R133, R142). -/

namespace Sys2Proof.Machine

/-- With the same preamble the streams of two writes begin alike, whatever the rest of the states (R133). -/
theorem frameInputAt_of_preamble (P : Config.Params) {s₁ s₂ : State} (hpre : s₁.pre = s₂.pre) {t : Nat}
    (ht : t < 1024) : s₁.frameInputAt P t = s₂.frameInputAt P t := by
  rw [frameInputAt_pre P s₁ ht, frameInputAt_pre P s₂ ht, hpre]

/-- Settles O34: the first 2048 samples depend on the first 1024 inputs, which are the preamble. -/
theorem firstSamplesIgnoreThePayload : Obligations.FirstSamplesIgnoreThePayload := by
  intro s₁ s₂ t₁ t₂ hphase₁ hphase₂ hcap₁ hcap₂ hhonest₁ hhonest₂ hist₁ hist₂ hpre hexec₁ hexec₂ n hn
  cases (exec_fgWrite_of_assembled hphase₁ hcap₁).symm.trans hexec₁
  cases (exec_fgWrite_of_assembled hphase₂ hcap₂).symm.trans hexec₂
  have hframe (m : Nat) : n < frameLen m := by rw [frameLen_eq]; omega
  have hout₁ := read_stream_out Config.params (outHolds_of_honest hcap₁ hhonest₁) (hframe _)
  have hout₂ := read_stream_out Config.params (outHolds_of_honest hcap₂ hhonest₂) (hframe _)
  have hsame : outputAt Config.params s₁.ist (s₁.frameInputAt Config.params) n =
      outputAt Config.params s₂.ist (s₂.frameInputAt Config.params) n := by
    rw [hist₁, hist₂]
    exact outputAt_congr _ _ (fun t => frameInputAt_of_preamble _ hpre) hn
  rw [State.answer_hostSamples, State.answer_hostSamples, hout₁, hout₂, hsame]
  exact ⟨rfl, rfl⟩

/-! ### Assemble and write (R142) -/

/-- Sample `n` of the frame of 72 bytes on a block with the given triple and preamble: nothing else of the block
enters it. -/
def frameOf (P : Config.Params) (c : SsCfg) (pre : Vector Sample 1024) (b : Vector Byte 72) (n : Nat) : Sample :=
  outputAt P P.iInit (inputAt P (SsUnit.create c) pre (P.pilot (P.encode b))) n

/-- What an assemble and a write leave: the frame of the bytes in the buffer, and as they were all the pieces that a
second assemble and write depend on. -/
structure FrameWritten (s : State) (b : Vector Byte 72) (t : State) : Prop where
  live : t.fsm ≠ .dead
  txn : t.txn = s.txn
  hostBytes : t.hostBytes = s.hostBytes
  cfg : t.cfg = s.cfg
  pre : t.pre = s.pre
  triple : t.ss.cfg = s.ss.cfg
  frame : ∀ n < frameLen s.cfg.m,
    t.hostSamples.read (s.txn.out + n) = some (frameOf Config.params s.ss.cfg s.pre b n)

/-- The payload phase leaves the triple. -/
theorem afterPayload_cfg (u : SsUnit) : (afterPayload u).cfg = u.cfg := by rw [afterPayload_eq]

/-- An assemble and a write on a live block, with 72 bytes to take and room for the frame. -/
theorem execAll_assemble_write {s : State} {hn pn : Bool} {b : Vector Byte 72} (hlive : s.fsm ≠ .dead)
    (hbytes : operandBytes s.txn s.hostBytes hn pn = some b) (hcap : s.capOk = true)
    (hhonest : s.honestCapacity) :
    ∃ t, execAll [.fgAssemble hn pn, .fgWrite] s = .next t ∧ FrameWritten s b t := by
  have hroom : s.outHolds = true := outHolds_of_honest hcap hhonest
  have hwrite : exec .fgWrite ((s.prepare Config.params b).answer .ok 0) = _ := exec_fgWrite_of_assembled rfl hcap
  refine ⟨_, by rw [execAll_cons_of_next _ (exec_fgAssemble_of_live hlive hbytes), execAll_singleton hwrite], ?_⟩
  exact {
    live := by simp
    txn := rfl
    hostBytes := bytesAfterWrite_of_outHolds hroom
    cfg := rfl
    pre := rfl
    triple := afterPayload_cfg s.ss.reset
    frame := fun n hn =>
      read_stream_out Config.params (s := (s.prepare Config.params b).answer .ok 0) hroom hn }

/-- Settles O38: the first pair leaves what the second depends on, so both put out the frame of the same bytes. -/
theorem repeatedAssembleWriteRepeatsTheFrame : Obligations.RepeatedAssembleWriteRepeatsTheFrame := by
  intro s hn pn hlive hreadable hcap hhonest
  obtain ⟨b, hbytes⟩ := Option.isSome_iff_exists.1 (operandBytes_isSome_iff.2 hreadable)
  obtain ⟨t, hrun, ht⟩ := execAll_assemble_write hlive hbytes hcap hhonest
  have hbytes' : operandBytes t.txn t.hostBytes hn pn = some b := by rw [ht.txn, ht.hostBytes, hbytes]
  have hcap' : t.capOk = true := by rwa [State.capOk, ht.cfg, ht.txn]
  have hhonest' : t.honestCapacity := by rwa [State.honestCapacity, ht.txn]
  obtain ⟨u, hrun', hu⟩ := execAll_assemble_write ht.live hbytes' hcap' hhonest'
  refine ⟨t, u, hrun, hrun', fun n hn => ?_⟩
  have hframe := ht.frame n hn
  have hframe' := hu.frame n (by rwa [ht.cfg])
  rw [ht.txn, ht.triple, ht.pre] at hframe'
  rw [hframe', hframe]
  exact ⟨rfl, rfl⟩

/-! ### Construct, assemble and write (R142) -/

/-- Construction leaves the operand lines. -/
theorem construct_txn (P : Config.Params) (s : State) : (s.construct P).txn = s.txn := by
  rw [State.construct, State.answer_txn, State.build_txn]
  split <;> rfl

/-- Construction leaves the host's bytes. -/
theorem construct_hostBytes (P : Config.Params) (s : State) : (s.construct P).hostBytes = s.hostBytes := by
  rw [State.construct, State.answer_hostBytes, State.build_hostBytes]
  split <;> rfl

/-- A fresh block, given 72 bytes and room for this hardware's 324636 samples, puts out the frame of those bytes on
the parameters' triple and preamble. -/
theorem execAll_construct_assemble_write {s : State} {hn pn : Bool} {b : Vector Byte 72}
    (hbytes : operandBytes s.txn s.hostBytes hn pn = some b) (hcap : 324636 ≤ s.txn.cap.toNat)
    (hhonest : s.honestCapacity) :
    ∃ t, execAll [.fgConstruct, .fgAssemble hn pn, .fgWrite] s = .next t ∧
      ∀ n < 324636, t.hostSamples.read (s.txn.out + n) =
        some (frameOf Config.params Config.params.ss (preamble Config.params) b n) := by
  have htxn := construct_txn Config.params s
  have hlen : frameLen (s.construct Config.params).cfg.m = 324636 := frameLen_eq 7
  have hconstruct : exec .fgConstruct s = .next (s.construct Config.params) := rfl
  have hunit : (s.construct Config.params).ss.cfg = Config.params.ss :=
    congrArg SsUnit.cfg (constructedUnit_eq Config.params)
  obtain ⟨t, hrun, ht⟩ := execAll_assemble_write (s := s.construct Config.params) (hn := hn) (pn := pn) (b := b)
    (by simp [State.construct]) (by rw [htxn, construct_hostBytes, hbytes]) (capOk_iff.2 (by rwa [hlen, htxn]))
    (by rwa [State.honestCapacity, htxn])
  refine ⟨t, by rw [execAll_cons_of_next _ hconstruct, hrun], fun n hn => ?_⟩
  have hframe := ht.frame n (by rwa [hlen])
  rwa [htxn, hunit] at hframe

/-- Two blocks whose explicit operands hold the same bytes, wherever they lie, get the same 72 bytes (R54, R121). -/
theorem operandBytes_explicit_congr {s₁ s₂ : State}
    (hhdr : ∀ k < 8, s₁.hostBytes.read (s₁.txn.hdr + k) = s₂.hostBytes.read (s₂.txn.hdr + k))
    (hpld : ∀ k < 64, s₁.hostBytes.read (s₁.txn.pld + k) = s₂.hostBytes.read (s₂.txn.pld + k)) :
    operandBytes s₁.txn s₁.hostBytes false false = operandBytes s₂.txn s₂.hostBytes false false := by
  refine Option.ext fun b => ?_
  rw [operandBytes_eq_some_iff, operandBytes_eq_some_iff]
  refine and_congr (forall₂_congr fun k hk => ?_) (forall₂_congr fun k hk => ?_)
  · simp [hhdr k hk]
  · simp [hpld k hk]

/-- Settles O37: both blocks take the same 72 bytes, and a fresh block's frame depends on those bytes alone. -/
theorem constructAssembleWriteIsDeterministic : Obligations.ConstructAssembleWriteIsDeterministic := by
  intro s₁ s₂ hhdr hpld hcap₁ hhonest₁ hcap₂ hhonest₂
  have hreadable : s₁.operandsReadable false false :=
    ⟨fun _ k hk => (hhdr k hk).1, fun _ k hk => (hpld k hk).1⟩
  obtain ⟨b, hbytes₁⟩ := Option.isSome_iff_exists.1 (operandBytes_isSome_iff.2 hreadable)
  have hbytes₂ : operandBytes s₂.txn s₂.hostBytes false false = some b := by
    rw [← hbytes₁]
    exact (operandBytes_explicit_congr (fun k hk => (hhdr k hk).2) fun k hk => (hpld k hk).2).symm
  obtain ⟨t₁, hrun₁, hframe₁⟩ := execAll_construct_assemble_write hbytes₁ hcap₁ hhonest₁
  obtain ⟨t₂, hrun₂, hframe₂⟩ := execAll_construct_assemble_write hbytes₂ hcap₂ hhonest₂
  refine ⟨t₁, t₂, hrun₁, hrun₂, fun n hn => ?_⟩
  rw [hframe₁ n hn, hframe₂ n hn]
  exact ⟨rfl, rfl⟩

end Sys2Proof.Machine
end

section
/-! The micro-step machine of R140 against the write. -/

namespace Sys2Proof.Machine

/-! ### The sequencer (R140) -/

/-- `seq` after `k` micro-steps, the phases ending after 1024, 162304 and `T(m)` of them. -/
def seqAfter (m k : Nat) : WriteSeq :=
  if k < 1024 then ⟨.pre, k, 0, 2 * k⟩
  else if k < 162304 then ⟨.pay, (k - 1024) / 256, (k - 1024) % 256, 2 * k⟩
  else if k < emitCount m then ⟨.flush, k - 162304, 0, 2 * k⟩
  else ⟨.done, 0, 0, 2 * k⟩

/-- The preamble phase: one symbol a micro-step. -/
theorem seqAfter_pre {m k : Nat} (h : k < 1024) : seqAfter m k = ⟨.pre, k, 0, 2 * k⟩ := if_pos h

/-- The payload phase: one chip a micro-step, 256 to a symbol. -/
theorem seqAfter_pay {m k : Nat} (hlo : 1024 ≤ k) (hhi : k < 162304) :
    seqAfter m k = ⟨.pay, (k - 1024) / 256, (k - 1024) % 256, 2 * k⟩ := by
  rw [seqAfter, if_neg (by omega), if_pos hhi]

/-- The flush phase: one zero sample a micro-step. -/
theorem seqAfter_flush {m k : Nat} (hlo : 162304 ≤ k) (hhi : k < emitCount m) :
    seqAfter m k = ⟨.flush, k - 162304, 0, 2 * k⟩ := by
  rw [seqAfter, if_neg (by omega), if_neg (by omega), if_pos hhi]

/-- After `T(m)` micro-steps the sequencer is done. -/
theorem seqAfter_emitCount (m : Nat) : seqAfter m (emitCount m) = ⟨.done, 0, 0, 2 * emitCount m⟩ := by
  have hlen := emitCount_eq m
  rw [seqAfter, if_neg (by omega), if_neg (by omega), if_neg (by omega)]

/-- The output index moves by two a micro-step (R140). -/
@[simp] theorem seqAfter_n (m k : Nat) : (seqAfter m k).n = 2 * k := by
  unfold seqAfter
  split_ifs <;> rfl

/-- The row `PRE` of R140 leads from each `seq` to the next. -/
theorem nextSeq_seqAfter_pre {m k : Nat} (h : k < 1024) : nextSeq m (seqAfter m k) = seqAfter m (k + 1) := by
  rw [seqAfter_pre h]
  show (if k < 1023 then ⟨.pre, k + 1, 0, 2 * k + 2⟩ else ⟨.pay, 0, 0, 2 * k + 2⟩ : WriteSeq) = _
  split
  case isTrue hmore =>
    rw [seqAfter_pre (by omega)]
    rfl
  case isFalse hlast =>
    obtain rfl : k = 1023 := by omega
    rw [seqAfter_pay (by omega) (by omega)]

/-- The row `PAY` of R140 leads from each `seq` to the next: chip by chip, symbol by symbol, and then to the flush
or, without one, to the end. -/
theorem nextSeq_seqAfter_pay {m k : Nat} (hlo : 1024 ≤ k) (hhi : k < 162304) :
    nextSeq m (seqAfter m k) = seqAfter m (k + 1) := by
  have hlen := emitCount_eq m
  rw [seqAfter_pay hlo hhi]
  show (if (k - 1024) % 256 < 255 then ⟨.pay, (k - 1024) / 256, (k - 1024) % 256 + 1, 2 * k + 2⟩
    else if (k - 1024) / 256 < 629 then ⟨.pay, (k - 1024) / 256 + 1, 0, 2 * k + 2⟩
    else if 0 < m then ⟨.flush, 0, 0, 2 * k + 2⟩ else ⟨.done, 0, 0, 2 * k + 2⟩ : WriteSeq) = _
  split_ifs with hchip hsym hflush
  · rw [seqAfter_pay (by omega) (by omega)]
    simp only [WriteSeq.mk.injEq, true_and]
    omega
  · rw [seqAfter_pay (by omega) (by omega)]
    simp only [WriteSeq.mk.injEq, true_and]
    omega
  · obtain rfl : k = 162303 := by omega
    rw [seqAfter_flush (by omega) (by omega)]
  · have hend : k + 1 = emitCount m := by omega
    rw [hend, seqAfter_emitCount, ← hend]
    rfl

/-- The row `FLUSH` of R140 leads from each `seq` to the next. -/
theorem nextSeq_seqAfter_flush {m k : Nat} (hlo : 162304 ≤ k) (hhi : k < emitCount m) :
    nextSeq m (seqAfter m k) = seqAfter m (k + 1) := by
  have hlen := emitCount_eq m
  rw [seqAfter_flush hlo hhi]
  show (if k - 162304 < 2 * m - 1 then ⟨.flush, k - 162304 + 1, 0, 2 * k + 2⟩
    else ⟨.done, 0, 0, 2 * k + 2⟩ : WriteSeq) = _
  split
  case isTrue hmore =>
    rw [seqAfter_flush (by omega) (by omega)]
    simp only [WriteSeq.mk.injEq, true_and]
    omega
  case isFalse hlast =>
    have hend : k + 1 = emitCount m := by omega
    rw [hend, seqAfter_emitCount, ← hend]
    rfl

/-! ### One micro-step, row by row (R140) -/

section
variable (P : Config.Params) {s : State}

/-- The row `PRE` of R140. -/
theorem microStep_of_pre (h : s.seq.ph = .pre) :
    s.microStep P = s.emit P (s.pre.getD s.seq.i P.zeroSample) (nextSeq s.cfg.m s.seq) := by
  simp only [State.microStep, h]

/-- The row `PAY` of R140. -/
theorem microStep_of_pay (h : s.seq.ph = .pay) :
    s.microStep P = ({ s with ss := (s.ss.gensym Config.chipBits).2 }).emit P
      (P.rot (chipIndex (s.ss.gensym Config.chipBits).1) (s.psym.getD s.seq.i P.zeroSample))
      (nextSeq s.cfg.m s.seq) := by
  simp only [State.microStep, h]

/-- The row `FLUSH` of R140. -/
theorem microStep_of_flush (h : s.seq.ph = .flush) :
    s.microStep P = s.emit P P.zeroSample (nextSeq s.cfg.m s.seq) := by
  simp only [State.microStep, h]

/-- The row `DONE` of R140. -/
theorem microStep_of_done (h : s.seq.ph = .done) : s.microStep P = s.microDone := by
  simp only [State.microStep, h]

end

/-! ### The state after `k` emits -/

/-- How many chips the first `k` emits draw (R134): none for the preamble, one each in the payload phase.
Irreducible, so that no comparison of terms counts up to the bound. -/
@[irreducible] def chipsDrawn (k : Nat) : Nat := min (k - 1024) 161280

theorem chipsDrawn_eq (k : Nat) : chipsDrawn k = min (k - 1024) 161280 := by
  unfold chipsDrawn
  rfl

/-- What `k` emits of a write that began in `s` have done, in the terms of R141 and R142. -/
def State.afterEmits (P : Config.Params) (s : State) (k : Nat) : State :=
  { s with
    ss := afterChips (chipsDrawn k) s.ss
    ist := interpAt P s.ist (s.frameInputAt P) k
    hostSamples := s.hostSamples.writeRun s.txn.out (samplesUpTo P s.ist (s.frameInputAt P) k)
    seq := seqAfter s.cfg.m k }

/-- The emit of input `X[k]`, with the unit and the sequencer moved on, is one more emit. -/
theorem emit_afterEmits (P : Config.Params) (s : State) (k : Nat) :
    ({ s.afterEmits P k with ss := afterChips (chipsDrawn (k + 1)) s.ss }).emit P (s.frameInputAt P k)
      (seqAfter s.cfg.m (k + 1)) = s.afterEmits P (k + 1) := by
  have hsamples :
      s.hostSamples.writeRun s.txn.out (samplesUpTo P s.ist (s.frameInputAt P) (k + 1)) =
        ((s.afterEmits P k).hostSamples.write (s.txn.out + (seqAfter s.cfg.m k).n)
          (P.iExec (interpAt P s.ist (s.frameInputAt P) k) (s.frameInputAt P k)).2.1).write
          (s.txn.out + ((seqAfter s.cfg.m k).n + 1))
          (P.iExec (interpAt P s.ist (s.frameInputAt P) k) (s.frameInputAt P k)).2.2 := by
    rw [samplesUpTo_succ, Memory.writeRun_append, samplesUpTo_length, seqAfter_n]
    rfl
  conv_rhs => rw [State.afterEmits, hsamples]
  rfl

/-- One micro-step of the preamble phase is one more emit. -/
theorem microStep_afterEmits_pre (P : Config.Params) (s : State) {k : Nat} (h : k < 1024) :
    (s.afterEmits P k).microStep P = s.afterEmits P (k + 1) := by
  have hseq : (s.afterEmits P k).seq = ⟨.pre, k, 0, 2 * k⟩ := seqAfter_pre h
  have hindex : (s.afterEmits P k).seq.i = k := congrArg WriteSeq.i hseq
  have hnext : nextSeq (s.afterEmits P k).cfg.m (s.afterEmits P k).seq = seqAfter s.cfg.m (k + 1) :=
    nextSeq_seqAfter_pre h
  have hdrawn : chipsDrawn (k + 1) = chipsDrawn k := by simp only [chipsDrawn_eq]; omega
  rw [← emit_afterEmits, microStep_of_pre P (congrArg WriteSeq.ph hseq), hnext, hindex, frameInputAt_pre P s h,
    hdrawn]
  rfl

/-- One micro-step of the payload phase is one more emit: the chip it draws is the one of R136. -/
theorem microStep_afterEmits_pay (P : Config.Params) (s : State) {k : Nat} (hlo : 1024 ≤ k) (hhi : k < 162304) :
    (s.afterEmits P k).microStep P = s.afterEmits P (k + 1) := by
  have hseq : (s.afterEmits P k).seq = ⟨.pay, (k - 1024) / 256, (k - 1024) % 256, 2 * k⟩ := seqAfter_pay hlo hhi
  have hindex : (s.afterEmits P k).seq.i = (k - 1024) / 256 := congrArg WriteSeq.i hseq
  have hnext : nextSeq (s.afterEmits P k).cfg.m (s.afterEmits P k).seq = seqAfter s.cfg.m (k + 1) :=
    nextSeq_seqAfter_pay hlo hhi
  have hdrawn : chipsDrawn k = k - 1024 := by rw [chipsDrawn_eq]; omega
  have hdrawn' : chipsDrawn (k + 1) = k - 1024 + 1 := by rw [chipsDrawn_eq]; omega
  have hunit : (s.afterEmits P k).ss = afterChips (k - 1024) s.ss := congrArg (afterChips · s.ss) hdrawn
  have hchip : chipIndex ((afterChips (k - 1024) s.ss).gensym Config.chipBits).1 = chipAt s.ss (k - 1024) := by
    rw [chipIndex_gensym_two, chipAt_afterChips, Nat.add_zero]
  rw [← emit_afterEmits, microStep_of_pay P (congrArg WriteSeq.ph hseq), hnext, hindex, hunit, hchip,
    frameInputAt_pay P s hlo hhi, hdrawn']
  rfl

/-- One micro-step of the flush phase is one more emit. -/
theorem microStep_afterEmits_flush (P : Config.Params) (s : State) {k : Nat} (hlo : 162304 ≤ k)
    (hhi : k < emitCount s.cfg.m) : (s.afterEmits P k).microStep P = s.afterEmits P (k + 1) := by
  have hseq : (s.afterEmits P k).seq = ⟨.flush, k - 162304, 0, 2 * k⟩ := seqAfter_flush hlo hhi
  have hnext : nextSeq (s.afterEmits P k).cfg.m (s.afterEmits P k).seq = seqAfter s.cfg.m (k + 1) :=
    nextSeq_seqAfter_flush hlo hhi
  have hdrawn : chipsDrawn (k + 1) = chipsDrawn k := by simp only [chipsDrawn_eq]; omega
  rw [← emit_afterEmits, microStep_of_flush P (congrArg WriteSeq.ph hseq), hnext, frameInputAt_flush P s hlo, hdrawn]
  rfl

/-- One micro-step, before the end of the frame, is one more emit (R140). -/
theorem microStep_afterEmits (P : Config.Params) (s : State) {k : Nat} (h : k < emitCount s.cfg.m) :
    (s.afterEmits P k).microStep P = s.afterEmits P (k + 1) := by
  rcases Nat.lt_or_ge k 1024 with hpre | hpre
  · exact microStep_afterEmits_pre P s hpre
  rcases Nat.lt_or_ge k 162304 with hpay | hpay
  · exact microStep_afterEmits_pay P s hpre hpay
  · exact microStep_afterEmits_flush P s hpay h

/-- `k` micro-steps are `k` emits (R140). -/
theorem microRun_microStart (P : Config.Params) (s : State) {k : Nat} (h : k ≤ emitCount s.cfg.m) :
    microRun P k s.microStart = s.afterEmits P k := by
  induction k with
  | zero =>
    have hdrawn : chipsDrawn 0 = 0 := by rw [chipsDrawn_eq]; rfl
    rw [State.afterEmits, hdrawn]
    rfl
  | succ k ih => rw [microRun, ih (by omega), microStep_afterEmits P s (by omega)]

/-! ### The end of the run -/

/-- All `T(m)` emits draw the payload phase's chips (R134). -/
theorem chipsDrawn_emitCount (m : Nat) : chipsDrawn (emitCount m) = 161280 := by
  rw [chipsDrawn_eq, emitCount_eq]
  omega

/-- The three phases of a write are its `T(m)` emits (R138, R139). -/
theorem stream_eq_afterEmits (P : Config.Params) {s : State} (h : s.outHolds = true) :
    s.stream P =
      { s.afterEmits P (emitCount s.cfg.m) with
        fsm := .streamed
        seq := (Config.unspecified s.draws).seq
        draws := s.draws + 1 } := by
  rw [State.stream, State.afterEmits, afterPayload_eq, afterChips_eq, chipsDrawn_emitCount,
    interpState_frameInputs, samplesAfterWrite_of_outHolds P h, bytesAfterWrite_of_outHolds h]

/-- Settles O33: `k` micro-steps are `k` emits, `T(m)` emits are the write's three phases, and the row `DONE` makes
of them the state the write leaves. -/
theorem microStepsRefineTheWrite : Obligations.MicroStepsRefineTheWrite := by
  intro s t hphase hcap hhonest hexec
  have hstream := stream_eq_afterEmits Config.params (outHolds_of_honest hcap hhonest)
  have hrun := microRun_microStart Config.params s (Nat.le_refl (emitCount s.cfg.m))
  have hdone : (s.afterEmits Config.params (emitCount s.cfg.m)).seq.ph = .done :=
    congrArg WriteSeq.ph (seqAfter_emitCount s.cfg.m)
  cases (exec_fgWrite_of_assembled hphase hcap).symm.trans hexec
  refine ⟨fun k hk => by rw [microRun_microStart Config.params s hk]; rfl, ?_, ?_, ?_, rfl, rfl, ?_⟩
  · rw [hrun, hstream]; rfl
  · rw [hrun, hstream]; rfl
  · rw [hrun, hstream]; rfl
  · rw [microRun, hrun, microStep_of_done _ hdone, hstream]; rfl

end Sys2Proof.Machine
end

section
/-! The chip rotation (R135). -/

namespace Sys2Proof.Config

/-- A rotation by `p` is `p` quarter turns, one after another. -/
theorem Params.rot_eq_iterate (P : Params) (p : BitVec 2) (x : Sample) :
    P.rot p x = (P.rot 1)^[p.toNat] x := by
  have hrows : p = 0 ∨ p = 1 ∨ p = 2 ∨ p = 3 := by bv_omega
  obtain rfl | rfl | rfl | rfl := hrows
  · rfl
  · rfl
  · rfl
  · show _ = P.rot 1 (P.rot 1 (P.rot 1 x))
    simp only [P.rot_one, P.rot_three, P.neg_neg]

/-- Four quarter turns lead back (R9, R135). -/
theorem Params.rot_one_periodic (P : Params) (x : Sample) : Function.IsPeriodicPt (P.rot 1) 4 x := by
  show P.rot 1 (P.rot 1 (P.rot 1 (P.rot 1 x))) = x
  simp only [P.rot_one, P.neg_neg]

/-- Rotations compose by addition modulo 4 (R135). -/
theorem Params.rot_rot (P : Params) (p q : BitVec 2) (x : Sample) : P.rot p (P.rot q x) = P.rot (p + q) x := by
  rw [P.rot_eq_iterate p, P.rot_eq_iterate q, P.rot_eq_iterate (p + q), ← Function.iterate_add_apply,
    BitVec.toNat_add]
  exact ((P.rot_one_periodic x).iterate_mod_apply (p.toNat + q.toNat)).symm

/-- Settles O40, by the rows of the table and its reading as repeated quarter turns. -/
theorem rotationsAreQuarterTurns : Obligations.RotationsAreQuarterTurns := fun P x =>
  ⟨P.rot_zero x, P.rot_one x, P.rot_two x, P.rot_three x, fun p q => P.rot_rot p q x⟩

end Sys2Proof.Config
end

section
/-! `FG.GETLEN`, `FG.COPY` and `FG.PRINT`: their answers, and that nothing else comes of them (R150 to R156). -/

namespace Sys2Proof.Machine

/-! ### Each of the three on a live block; a dead one answers as `exec_host_of_dead` says -/

/-- `FG.GETLEN` on a live block (R150). -/
theorem exec_fgGetlen_of_live {s : State} (hlive : s.fsm ≠ .dead) :
    exec .fgGetlen s = .next (s.answer .ok (BitVec.ofNat 32 (frameLen s.cfg.m))) := by
  rw [exec_fgGetlen, if_pos (Lifecycle.live_eq_true.2 hlive)]

/-- `FG.COPY` on a live block (R152). -/
theorem exec_fgCopy_of_live {s : State} (hlive : s.fsm ≠ .dead) :
    exec .fgCopy s = .next (s.raise .unsupportedOperation) := by
  rw [exec_fgCopy, if_pos (Lifecycle.live_eq_true.2 hlive)]

/-- `FG.PRINT` on a live block (R153). -/
theorem exec_fgPrint_of_live {s : State} (hlive : s.fsm ≠ .dead) : exec .fgPrint s = .next (s.answer .ok 0) := by
  rw [exec_fgPrint, if_pos (Lifecycle.live_eq_true.2 hlive)]

/-- Settles O41, by the equation of `FG.GETLEN` on a live block, `L(m)` written out, and the one answer of a dead
block. -/
theorem getlenAnswersTheFrameLength : Obligations.GetlenAnswersTheFrameLength := by
  refine ⟨by decide, fun s => ⟨exec_fgGetlen_of_live, fun hlive hm => ?_,
    fun hdead => exec_host_of_dead hdead rfl (by decide)⟩⟩
  rw [exec_fgGetlen_of_live hlive, hm, frameLen_eq]
  rfl

/-- Settles O43, by the equation of `FG.COPY` on a live block and the one answer of a dead block. -/
theorem copyNeverSucceeds : Obligations.CopyNeverSucceeds :=
  ⟨by decide, fun _ => ⟨exec_fgCopy_of_live, fun hdead => exec_host_of_dead hdead rfl (by decide)⟩⟩

/-- Settles O44, by the equation of `FG.PRINT` on a live block and the one answer of a dead block. -/
theorem printChangesNothing : Obligations.PrintChangesNothing :=
  ⟨by decide, fun _ => ⟨exec_fgPrint_of_live, fun hdead => exec_host_of_dead hdead rfl (by decide)⟩⟩

/-! ### The length and the capacity (R151, R155) -/

/-- Below the bound of R155 the data word holds the whole length. -/
theorem toNat_ofNat_frameLen {m : Nat} (hm : m < 2 ^ 29) : (BitVec.ofNat 32 (frameLen m)).toNat = frameLen m := by
  rw [BitVec.toNat_ofNat, frameLen_eq]
  omega

/-- An assembled block answers a write, and with `OK` exactly when the declared capacity holds a frame (R131,
R132). -/
theorem exec_fgWrite_ok_iff {s : State} (hphase : s.fsm = .assembled) :
    ∃ u, exec .fgWrite s = .next u ∧ (u.answers .ok 0 ↔ frameLen s.cfg.m ≤ s.txn.cap.toNat) := by
  by_cases hlen : frameLen s.cfg.m ≤ s.txn.cap.toNat
  · exact ⟨_, exec_fgWrite_of_assembled hphase (capOk_iff.2 hlen), iff_of_true rfl hlen⟩
  · have hrefused : ¬ (s.raise .bufferTooSmall).answers .ok 0 := by simp
    exact ⟨_, exec_fgWrite_of_short hphase (Nat.lt_of_not_le hlen), iff_of_false hrefused hlen⟩

/-- Only construction and teardown write `cfg` (R30, R151). -/
theorem effect_keeps_cfg {i : Instr} {s t : State} (hconstruct : i ≠ .fgConstruct) (hteardown : i ≠ .fgTeardown)
    (h : Effect s i t) : t.cfg = s.cfg := by
  cases h with
  | constructed => exact absurd rfl hconstruct
  | tornDown => exact absurd rfl hteardown
  | answered | assembled | written | ssCreated | ssReset | ssAdvanced | ssDrawn => rfl

/-- Settles O42: the length answered and the length a write's capacity is held against are the same number, and it
depends on `cfg` alone. -/
theorem lengthIsTheSmallestAcceptedCapacity : Obligations.LengthIsTheSmallestAcceptedCapacity := by
  refine ⟨fun s hphase hm => ?_, fun i s t hconstruct hteardown h =>
    effect_keeps_cfg hconstruct hteardown (effect_of_exec h)⟩
  have hlive : s.fsm ≠ .dead := by rw [hphase]; decide
  obtain ⟨u, hwrite, hok⟩ := exec_fgWrite_ok_iff hphase
  exact ⟨_, u, _, exec_fgGetlen_of_live hlive, rfl, hwrite, by rw [toNat_ofNat_frameLen hm, hok]⟩

/-! ### No trace in later operations (R156) -/

/-- No operation reads the answer that stands on the port, and each that completes replaces it (R32). -/
theorem exec_withResp (i : Instr) (s : State) (r : Option Response) : exec i (s.withResp r) = exec i s := by
  cases i with
  | fgConstruct =>
    by_cases hdead : s.fsm = .dead
    · rw [exec_fgConstruct_of_dead hdead, exec_fgConstruct_of_dead ((s.withResp_fsm r).trans hdead)]
      rfl
    · rw [exec_fgConstruct_of_live hdead, exec_fgConstruct_of_live (by rwa [s.withResp_fsm r])]
      rfl
  | fgWrite => exact exec_fgWrite_withResp s r
  | fgTeardown | fgAssemble | fgGetlen | fgCopy | fgPrint | ssCreate | ssReset | ssAdvance | ssGensym => rfl

/-- A run of one or more operations does not depend on the answer it starts from (R32). -/
theorem execAll_cons_withResp (i : Instr) (is : List Instr) (s : State) (r : Option Response) :
    execAll (i :: is) (s.withResp r) = execAll (i :: is) s := by
  rw [execAll, execAll, exec_withResp]

/-- Each of the three completes in every state, and all it changes is the answer (R150, R152, R153). -/
theorem exec_query {q : Instr} (s : State) (hq : q = .fgGetlen ∨ q = .fgCopy ∨ q = .fgPrint) :
    ∃ r, exec q s = .next (s.withResp r) := by
  by_cases hdead : s.fsm = .dead
  · obtain ⟨hhost, hconstruct⟩ : q.port = .host ∧ q ≠ .fgConstruct := by
      obtain rfl | rfl | rfl := hq <;> decide
    exact ⟨_, exec_host_of_dead hdead hhost hconstruct⟩
  · obtain rfl | rfl | rfl := hq
    · exact ⟨_, exec_fgGetlen_of_live hdead⟩
    · exact ⟨_, exec_fgCopy_of_live hdead⟩
    · exact ⟨_, exec_fgPrint_of_live hdead⟩

/-- Settles O45: the operation changes the answer alone, which no run that follows reads. -/
theorem queriesDoNotAffectLaterOperations : Obligations.QueriesDoNotAffectLaterOperations := by
  intro q s hq
  obtain ⟨r, hquery⟩ := exec_query s hq
  exact ⟨_, hquery, fun i is => execAll_cons_withResp i is s r⟩

end Sys2Proof.Machine
end

section
/-! Answers and the lifecycle: what an operation that completes answers, and the table of `fsm` (R165, R170, R171,
R181). -/

namespace Sys2Proof.Machine

/-! ### The SS operations (R38, R181) -/

/-- An SS operation that completes has moved the SS unit and answered `OK`; all but `SS.CREATE` keep the unit's
triple. -/
theorem exec_ss_completes {i : Instr} {s t : State} (hss : i.port = .ss) (h : exec i s = .next t) :
    ∃ u created d, t = { s with ss := u, ssCreated := created }.answer .ok d ∧
      (i ≠ .ssCreate → u.cfg = s.ss.cfg) := by
  cases i with
  | fgConstruct | fgTeardown | fgAssemble | fgWrite | fgGetlen | fgCopy | fgPrint => cases hss
  | ssCreate =>
    rw [exec_ssCreate] at h
    split at h <;> cases h
    exact ⟨_, _, _, rfl, absurd rfl⟩
  | ssReset =>
    rw [exec_ssReset] at h
    split at h <;> cases h
    exact ⟨_, _, _, rfl, fun _ => s.ss.reset_cfg⟩
  | ssAdvance =>
    rw [exec_ssAdvance] at h
    split at h <;> cases h
    exact ⟨_, _, _, rfl, fun _ => rfl⟩
  | ssGensym k =>
    rw [exec_ssGensym] at h
    split at h <;> cases h
    exact ⟨_, _, _, rfl, fun _ => by rw [SsUnit.gensym_unit]⟩

/-- Settles O21, by what an SS operation that completes has done. -/
theorem ssOperationsAnswerOk : Obligations.SsOperationsAnswerOk := by
  intro i s t hss h
  obtain ⟨u, created, d, rfl, hcfg⟩ := exec_ss_completes hss h
  exact ⟨⟨d, rfl⟩, rfl, hcfg⟩

/-! ### The lifecycle table, row by row (R170) -/

/-- `t` is the state the table of R170 gives for `i` in `s`: where the row has an error, all `i` does is raise it;
where it has `OK`, the block is left in the row's next state. -/
inductive FollowsTable (s : State) (i : Instr) : State → Prop
  | raised (e : Status) (hrow : lifecycleTable i s.capOk s.fsm = some (e, s.fsm)) : FollowsTable s i (s.raise e)
  | completed {t : State} (d : Word32) (hrow : lifecycleTable i s.capOk s.fsm = some (.ok, t.fsm))
      (hok : t.answers .ok d) : FollowsTable s i t

/-- A state that follows its row has the next `fsm` of the row and answers its status. -/
theorem FollowsTable.row {s t : State} {i : Instr} (h : FollowsTable s i t) :
    ∃ st d, lifecycleTable i s.capOk s.fsm = some (st, t.fsm) ∧ t.answers st d := by
  cases h with
  | raised e hrow => exact ⟨e, 0, hrow, rfl⟩
  | completed d hrow hok => exact ⟨.ok, d, hrow, hok⟩

/-- The table's rows of a dead block. -/
theorem lifecycleTable_dead {i : Instr} (capOk : Bool) (hhost : i.port = .host) (hconstruct : i ≠ .fgConstruct) :
    lifecycleTable i capOk .dead = some (.invalidConfiguration, .dead) := by
  cases i with
  | fgConstruct => exact absurd rfl hconstruct
  | fgTeardown | fgAssemble | fgWrite | fgGetlen | fgCopy | fgPrint => rfl
  | ssCreate | ssReset | ssAdvance | ssGensym => cases hhost

/-- The table's rows of a live block that do not depend on which live state it is in. -/
theorem lifecycleTable_live {f : Lifecycle} (capOk : Bool) (hlive : f ≠ .dead) :
    lifecycleTable .fgTeardown capOk f = some (.ok, .dead) ∧
    (∀ hn pn, lifecycleTable (.fgAssemble hn pn) capOk f = some (.ok, .assembled)) ∧
    lifecycleTable .fgGetlen capOk f = some (.ok, f) ∧
    lifecycleTable .fgCopy capOk f = some (.unsupportedOperation, f) ∧
    lifecycleTable .fgPrint capOk f = some (.ok, f) := by
  cases f with
  | dead => exact absurd rfl hlive
  | created | assembled | streamed => exact ⟨rfl, fun _ _ => rfl, rfl, rfl, rfl⟩

/-- `FG.ASSEMBLE` on a live block completes where host memory holds the present operands (R120, R121). -/
theorem exec_fgAssemble_of_readable {s : State} {hn pn : Bool} (hlive : s.fsm ≠ .dead)
    (hreadable : s.operandsReadable hn pn) :
    ∃ b, exec (.fgAssemble hn pn) s = .next ((s.prepare Config.params b).answer .ok 0) := by
  obtain ⟨b, hbytes⟩ := Option.isSome_iff_exists.1 (operandBytes_isSome_iff.2 hreadable)
  exact ⟨b, exec_fgAssemble_of_live hlive hbytes⟩

/-- `FG.WRITE` answers every state as its row says. -/
theorem exec_fgWrite_followsTable (s : State) : ∃ t, exec .fgWrite s = .next t ∧ FollowsTable s .fgWrite t := by
  cases hphase : s.fsm with
  | dead => exact ⟨_, exec_host_of_dead hphase rfl (by decide), .raised _ (by rw [hphase]; rfl)⟩
  | created => exact ⟨_, exec_fgWrite_of_stale (.inl hphase), .raised _ (by rw [hphase]; rfl)⟩
  | streamed => exact ⟨_, exec_fgWrite_of_stale (.inr hphase), .raised _ (by rw [hphase]; rfl)⟩
  | assembled =>
    by_cases hcap : s.capOk = true
    · exact ⟨_, exec_fgWrite_of_assembled hphase hcap, .completed 0 (by rw [hphase, hcap]; rfl) rfl⟩
    · have hshort := Nat.lt_of_not_le (mt capOk_iff.2 hcap)
      have hrow : lifecycleTable .fgWrite s.capOk s.fsm = some (.bufferTooSmall, s.fsm) := by
        rw [hphase, Bool.eq_false_of_not_eq_true hcap]; rfl
      exact ⟨_, exec_fgWrite_of_short hphase hshort, .raised _ hrow⟩

/-- A host operation answers a live block as its row says, where host memory holds what `FG.ASSEMBLE` reads. -/
theorem exec_host_followsTable_of_live {i : Instr} {s : State} (hhost : i.port = .host) (hlive : s.fsm ≠ .dead)
    (hreadable : ∀ hn pn, i = .fgAssemble hn pn → s.operandsReadable hn pn) :
    ∃ t, exec i s = .next t ∧ FollowsTable s i t := by
  obtain ⟨hteardown, hassemble, hgetlen, hcopy, hprint⟩ := lifecycleTable_live s.capOk hlive
  cases i with
  | fgConstruct => exact ⟨_, exec_fgConstruct s, .completed 0 rfl rfl⟩
  | fgTeardown => exact ⟨_, exec_fgTeardown_of_live hlive, .completed 0 hteardown rfl⟩
  | fgAssemble hn pn =>
    obtain ⟨b, hexec⟩ := exec_fgAssemble_of_readable hlive (hreadable hn pn rfl)
    exact ⟨_, hexec, .completed 0 (hassemble hn pn) rfl⟩
  | fgWrite => exact exec_fgWrite_followsTable s
  | fgGetlen => exact ⟨_, exec_fgGetlen_of_live hlive, .completed _ hgetlen rfl⟩
  | fgCopy => exact ⟨_, exec_fgCopy_of_live hlive, .raised _ hcopy⟩
  | fgPrint => exact ⟨_, exec_fgPrint_of_live hlive, .completed 0 hprint rfl⟩
  | ssCreate | ssReset | ssAdvance | ssGensym => cases hhost

/-- A host operation answers every state as its row says; a dead block's `FG.ASSEMBLE` reads no operand (R126). -/
theorem exec_host_followsTable {i : Instr} {s : State} (hhost : i.port = .host)
    (hreadable : ∀ hn pn, i = .fgAssemble hn pn → s.fsm ≠ .dead → s.operandsReadable hn pn) :
    ∃ t, exec i s = .next t ∧ FollowsTable s i t := by
  by_cases hdead : s.fsm = .dead
  · by_cases hconstruct : i = .fgConstruct
    · subst hconstruct
      exact ⟨_, exec_fgConstruct s, .completed 0 rfl rfl⟩
    · have hrow := lifecycleTable_dead s.capOk hhost hconstruct
      exact ⟨_, exec_host_of_dead hdead hhost hconstruct, .raised _ (by rw [hdead, hrow])⟩
  · exact exec_host_followsTable_of_live hhost hdead fun hn pn hi => hreadable hn pn hi hdead

/-- Settles O47: every host operation follows its row, and an illegal word is refused by the block. -/
theorem lifecycleTableHolds : Obligations.LifecycleTableHolds := by
  refine ⟨fun i s hhost hreadable => ?_, fun s u rest e hp hd => ⟨_, step_of_decode_error hp hd, rfl, rfl⟩⟩
  obtain ⟨t, hexec, hfollows⟩ := exec_host_followsTable hhost fun hn pn hi _ => hreadable hn pn hi
  obtain ⟨st, d, hrow, hanswer⟩ := hfollows.row
  exact ⟨t, st, d, hrow, hexec, hanswer⟩

/-! ### Errors (R165) -/

/-- An `FG.ASSEMBLE` that completes on a live block could read its operands. -/
theorem operandsReadable_of_exec {s t : State} {hn pn : Bool} (hlive : s.fsm ≠ .dead)
    (h : exec (.fgAssemble hn pn) s = .next t) : s.operandsReadable hn pn := by
  obtain ⟨b, hbytes, -⟩ := exists_bytes_of_exec_fgAssemble hlive h
  exact operandBytes_isSome_iff.1 (Option.isSome_iff_exists.2 ⟨b, hbytes⟩)

/-- A host operation that completes followed its row. -/
theorem followsTable_of_exec {i : Instr} {s t : State} (hhost : i.port = .host) (h : exec i s = .next t) :
    FollowsTable s i t := by
  have hreadable : ∀ hn pn, i = .fgAssemble hn pn → s.fsm ≠ .dead → s.operandsReadable hn pn := by
    rintro hn pn rfl hlive
    exact operandsReadable_of_exec hlive h
  obtain ⟨u, hexec, hfollows⟩ := exec_host_followsTable hhost hreadable
  cases hexec.symm.trans h
  exact hfollows

/-- An operation that completes has answered `OK`, or raised an error and done nothing else (R165). -/
theorem exec_ok_or_raised {i : Instr} {s t : State} (h : exec i s = .next t) :
    (∃ d, t.answers .ok d) ∨ ∃ e, t = s.raise e := by
  cases hport : i.port with
  | host =>
    cases followsTable_of_exec hport h with
    | raised e => exact .inr ⟨e, rfl⟩
    | completed d _ hok => exact .inl ⟨d, hok⟩
  | ss =>
    obtain ⟨u, created, d, rfl, -⟩ := exec_ss_completes hport h
    exact .inl ⟨d, rfl⟩

/-- Settles O46: the operation did not answer `OK`, so it raised. -/
theorem errorsLeaveNoTrace : Obligations.ErrorsLeaveNoTrace := by
  intro i s t r h hresp herror
  obtain ⟨d, hok⟩ | ⟨e, rfl⟩ := exec_ok_or_raised h
  · cases hok.symm.trans hresp
    exact absurd rfl herror
  · cases hresp
    exact ⟨rfl, rfl⟩

/-! ### Reaching the states of the lifecycle (R171) -/

/-- A dead block answers `OK` to `FG.CONSTRUCT` alone. -/
theorem eq_fgConstruct_of_dead_of_ok {i : Instr} {s t : State} {d : Word32} (hhost : i.port = .host)
    (hdead : s.fsm = .dead) (h : exec i s = .next t) (hok : t.answers .ok d) : i = .fgConstruct := by
  by_contra hconstruct
  cases (exec_host_of_dead hdead hhost hconstruct).symm.trans h
  cases hok

/-- `Streamed` is entered by a write of an assembled block alone, and kept by operations that only answer or that
drive the SS unit. -/
theorem effect_enters_streamed {i : Instr} {s t : State} (h : Effect s i t) (hstreamed : t.fsm = .streamed) :
    (i = .fgWrite ∧ s.fsm = .assembled) ∨ s.fsm = .streamed := by
  cases h with
  | written hphase => exact .inl ⟨rfl, hphase⟩
  | constructed | tornDown | assembled => cases hstreamed
  | answered | ssCreated | ssReset | ssAdvanced | ssDrawn => exact .inr hstreamed

/-- Settles O48: what a dead block answers, the next state of each of the three operations, and the ways an operation
can complete. -/
theorem lifecycleReachability : Obligations.LifecycleReachability := by
  refine ⟨fun i s t d => eq_fgConstruct_of_dead_of_ok, fun s => ⟨_, exec_fgConstruct s, rfl⟩,
    fun s hn pn hlive hreadable => ?_, fun s hphase hcap => ⟨_, exec_fgWrite_of_assembled hphase hcap, rfl⟩,
    fun i s t h => effect_enters_streamed (effect_of_exec h)⟩
  obtain ⟨b, hexec⟩ := exec_fgAssemble_of_readable hlive hreadable
  exact ⟨_, hexec, rfl⟩

end Sys2Proof.Machine
end

section
/-! `FG.CONSTRUCT` from nothing (R110, R113, R191), and the invariants at power-on (R190). -/

namespace Sys2Proof.Machine

/-! ### The preamble in closed form (R110, R113) -/

/-- Symbol `k` of R110's loop takes bits `2k` and `2k + 1`, counted from where the unit stands. -/
theorem preambleSyms_getElem? (P : Config.Params) {n k : Nat} (u : SsUnit) (hk : k < n) :
    (preambleSyms P n u)[k]? = some ⟨P.bpsk (u.cfg.lfsrOut (u.cfg.adv (2 * k) u.v)),
      P.bpsk (u.cfg.lfsrOut (u.cfg.adv (2 * k + 1) u.v))⟩ := by
  induction n generalizing u k with
  | zero => omega
  | succ n ih =>
    cases k with
    | zero => rfl
    | succ k =>
      have hnext : u.advance.2.advance.2 = ⟨u.cfg, u.cfg.adv 2 u.v⟩ := rfl
      rw [preambleSyms, List.getElem?_cons_succ, hnext, ih _ (by omega)]
      simp only [← SsCfg.adv_add, Nat.mul_succ, Nat.add_comm 2, Nat.add_right_comm _ 1 2]

/-- The preamble cache holds the sequence from the seed on, two bits to a symbol (R113). -/
theorem preamble_getElem (P : Config.Params) {k : Nat} (hk : k < 1024) :
    (preamble P)[k] = preambleAt P k := by
  have hsym : (preambleSyms P 1024 (SsUnit.create P.ss))[k]? = some (preambleAt P k) :=
    preambleSyms_getElem? P _ hk
  obtain ⟨_, hget⟩ := List.getElem?_eq_some_iff.1 hsym
  exact hget

/-! ### What construction keeps -/

/-- Construction leaves the transactions still to come. -/
theorem construct_pending (P : Config.Params) (s : State) : (s.construct P).pending = s.pending := by
  rw [State.construct, State.answer_pending, State.build_pending]
  split <;> rfl

/-! ### The two obligations -/

/-- Settles O22: what is built depends on nothing of the state before, and what is not built is kept, torn down
first or not. -/
theorem constructBuildsTheBlock : Obligations.ConstructBuildsTheBlock := by
  intro s
  have hexec : exec .fgConstruct s = .next (s.construct Config.params) := exec_fgConstruct s
  obtain ⟨hsamples, hbytes⟩ := effect_keeps_hostMemory (effect_of_exec hexec) (by decide)
  exact ⟨_, hexec, rfl, rfl, rfl, rfl, constructedUnit_eq _, fun _ hk => preamble_getElem _ hk, rfl,
    hbytes, hsamples, construct_txn _ s, construct_pending _ s⟩

/-- Settles O53: a dead block's phase and a unit never created ask nothing, and the host's memory is canonical by
hypothesis. -/
theorem resetMeetsTheInvariants : Obligations.ResetMeetsTheInvariants := by
  intro script hb hs hbytes hsamples s
  have hdead : s.fsm = .dead := rfl
  have hnever : s.ssCreated = false := rfl
  have hinv : s.inv := (State.inv_iff s).2 ⟨rfl, by rw [State.phaseInv, hdead]; trivial⟩
  have hssInv : s.ssInv := fun hcreated => absurd (hnever.symm.trans hcreated) (by decide)
  exact ⟨hdead, hinv, hssInv, hbytes, hsamples⟩

end Sys2Proof.Machine
end

section
/-! The frame of the step and of `FG.CONSTRUCT` (R38, R177), and the one fault of the model (R120). -/

namespace Sys2Proof.Machine

/-- Settles O10, by the step's branch for an issuer that presents nothing. -/
theorem idleStepHoldsTheState : Obligations.IdleStepHoldsTheState := by
  intro s hidle
  rw [step, hidle]

/-- Settles O23: a dead block is built upon as it stands, and R110 writes none of the three buffers. -/
theorem constructLeavesTheFrameBuffers : Obligations.ConstructLeavesTheFrameBuffers :=
  fun _ hdead => ⟨_, exec_fgConstruct_of_dead hdead, rfl, rfl, rfl⟩

/-- `FG.ASSEMBLE` gets no buffer exactly when host memory lacks a byte of a present operand. -/
theorem operandBytes_eq_none_iff {s : State} {hn pn : Bool} :
    operandBytes s.txn s.hostBytes hn pn = none ↔ ¬ s.operandsReadable hn pn := by
  rw [← operandBytes_isSome_iff, Option.not_isSome_iff_eq_none]

/-- Settles O28, by the cases of `FG.ASSEMBLE`: the liveness check answers, a buffer of 72 bytes completes, and the
fault is what is left. -/
theorem assembleFaultsOnlyOnAMissingByte : Obligations.AssembleFaultsOnlyOnAMissingByte := by
  intro s hn pn
  rw [← operandBytes_eq_none_iff]
  obtain ⟨hdead, hexec⟩ | ⟨-, b, hbytes, hexec⟩ | ⟨hlive, hnone, hexec⟩ := exec_fgAssemble_cases hn pn s
  · simp [hexec, hdead]
  · simp [hexec, hbytes]
  · simp [hexec, hlive, hnone]

end Sys2Proof.Machine
end

section
/-! The canonical form of host memory, and a write that overruns its buffer (R50, R52, R195). -/

namespace Sys2Proof.Machine

/-! ### The canonical form (R50) -/

/-- Host bytes after a write are in canonical form, those an overrun leaves included. -/
theorem bytesAfterWrite_wf {s : State} (hwf : s.hostBytes.wf) : s.bytesAfterWrite.wf := by
  rw [State.bytesAfterWrite]
  split
  case isTrue => exact hwf
  case isFalse => exact Memory.wf_ofPairs _

/-- Host samples after a write are in canonical form, those an overrun leaves included. -/
theorem samplesAfterWrite_wf (P : Config.Params) {s : State} (hwf : s.hostSamples.wf) :
    (s.samplesAfterWrite P).wf := by
  rw [State.samplesAfterWrite]
  split
  case isTrue => exact Memory.wf_writeRun _ _ hwf
  case isFalse => exact Memory.wf_writeRun _ _ (Memory.wf_ofPairs _)

/-- Every way of completing keeps both spaces in canonical form: only a write's touches them (R38). -/
theorem effect_keeps_memoryWf {i : Instr} {s t : State} (hwf : s.memoryWf) (h : Effect s i t) : t.memoryWf := by
  by_cases hwrite : i = .fgWrite
  · subst hwrite
    cases h with
    | answered => exact hwf
    | written => exact ⟨bytesAfterWrite_wf hwf.1, samplesAfterWrite_wf Config.params hwf.2⟩
  · obtain ⟨hsamples, hbytes⟩ := effect_keeps_hostMemory h hwrite
    rwa [State.memoryWf, hsamples, hbytes]

/-- Settles O52: presenting or refusing a transaction leaves host memory alone, and every way of completing keeps
the canonical form. -/
theorem everyStepKeepsMemoryCanonical : Obligations.EveryStepKeepsMemoryCanonical := fun _ _ =>
  step_keeps (fun _ _ _ hwf => hwf) (fun _ hwf => hwf) (fun _ _ _ hwf _ => effect_keeps_memoryWf hwf)

/-! ### The overrun (R195) -/

/-- Entry `n` of a buffer shorter than the frame: sample `n` of the frame all the same (log 4). -/
theorem read_stream_out_of_overrun (P : Config.Params) {s : State} (hshort : s.txn.outLen < frameLen s.cfg.m)
    {n : Nat} (hn : n < s.txn.outLen) :
    (s.stream P).hostSamples.read (s.txn.out + n) = some (outputAt P s.ist (s.frameInputAt P) n) := by
  have hroom : ¬ s.outHolds = true := fun h => absurd (of_decide_eq_true h) (Nat.not_le_of_lt hshort)
  have hlen : ((s.frameSamples P).take s.txn.outLen).length = s.txn.outLen := by
    rw [List.length_take, frameSamples_length, Nat.min_eq_left hshort.le]
  rw [State.stream_hostSamples, State.samplesAfterWrite, if_neg hroom, Memory.read_writeRun, hlen,
    if_pos ⟨Nat.le_add_right _ _, Nat.add_lt_add_left hn _⟩, Nat.add_sub_cancel_left, List.getElem?_take_of_lt hn,
    frameSamples_eq_samplesUpTo]
  exact samplesUpTo_getElem? P s.ist _ (hn.trans hshort)

/-- Settles O36: the check holds the declared capacity alone against the frame, so the write streams; the unit and the
interpolator move as for an honest capacity, and the buffer's own entries hold the frame's first
samples. -/
theorem overrunLeavesTheBlockAsUsual : Obligations.OverrunLeavesTheBlockAsUsual := by
  intro s hphase hcap hshort
  exact ⟨_, exec_fgWrite_of_assembled hphase hcap, rfl, rfl, afterPayload_eq s.ss,
    interpState_frameInputs Config.params s, rfl, rfl, rfl, rfl, rfl,
    fun _ hn => read_stream_out_of_overrun Config.params hshort hn⟩

end Sys2Proof.Machine
end

section
/-! The parameter sets of the model and their instantiation (R7, R9, R92, R115, R169). -/

namespace Sys2Proof

/-! ### The conditions on a triple (R7, R92) -/

/-- A legal triple, its bounds written with `2^M` as R7 writes them. -/
theorem SsCfg.legal_iff_lt (c : SsCfg) :
    c.legal = true ↔ 2 ≤ c.order.toNat ∧ 0 < c.poly.toNat ∧ c.poly.toNat < 2 ^ c.order.toNat ∧
      0 < c.seed.toNat ∧ c.seed.toNat < 2 ^ c.order.toNat ∧ Machine.SsMaximal c := by
  simp only [SsCfg.legal_iff, SsCfg.le_period_iff]

/-- The triple of three numbers within their fields: legal exactly when the numbers meet R7 and R92. -/
theorem SsCfg.legal_ofNat_iff {order polynomial seed : Nat} (horder : order ≤ 31) (hpoly : polynomial < 2 ^ order)
    (hseed : seed < 2 ^ order) :
    SsCfg.legal ⟨BitVec.ofNat 5 order, BitVec.ofNat 32 polynomial, BitVec.ofNat 32 seed⟩ = true ↔
      2 ≤ order ∧ 0 < polynomial ∧ 0 < seed ∧
        Machine.SsMaximal ⟨BitVec.ofNat 5 order, BitVec.ofNat 32 polynomial, BitVec.ofNat 32 seed⟩ := by
  have hword : 2 ^ order < 2 ^ 32 := Nat.pow_lt_pow_right (by decide) (by omega)
  have horderVal : (BitVec.ofNat 5 order).toNat = order := Nat.mod_eq_of_lt (by omega)
  have hpolyVal : (BitVec.ofNat 32 polynomial).toNat = polynomial := Nat.mod_eq_of_lt (hpoly.trans hword)
  have hseedVal : (BitVec.ofNat 32 seed).toNat = seed := Nat.mod_eq_of_lt (hseed.trans hword)
  simp only [SsCfg.legal_iff_lt, horderVal, hpolyVal, hseedVal, hpoly, hseed, true_and]

/-! ### The two obligations -/

/-- Settles O18: the type's proof fields give the two laws, and a legal triple or an involution is put into a set in
the place of its own. -/
theorem parametersRangeOverTheLegalOnes : Obligations.ParametersRangeOverTheLegalOnes := by
  refine ⟨fun P => P.ss.legal_iff_lt.1 P.ss_legal, fun c horder hpoly hpolyLt hseed hseedLt hmax => ?_,
    Config.Params.neg_neg, fun f hf => ?_⟩
  · have hlegal : c.legal = true := c.legal_iff_lt.2 ⟨horder, hpoly, hpolyLt, hseed, hseedLt, hmax⟩
    exact ⟨{ Config.params with triple := ⟨c, hlegal⟩ }, rfl⟩
  · exact ⟨{ Config.params with negation := ⟨f, hf⟩ }, fun _ => rfl⟩

/-- Settles O19, by what instantiation can answer: a set it answers holds the triple of the numbers, which is legal. -/
theorem illegalParametersHaveNoInstance : Obligations.IllegalParametersHaveNoInstance := by
  intro order polynomial seed o c isLegal
  refine ⟨fun ⟨horder, horderLe, hpoly, hpolyLt, hseed, hseedLt, hmax⟩ => ?_, fun hillegal => ?_⟩
  · have hlegal : c.legal = true := (SsCfg.legal_ofNat_iff horderLe hpolyLt hseedLt).2 ⟨horder, hpoly, hseed, hmax⟩
    exact ⟨{ toOpenMembers := o, triple := ⟨c, hlegal⟩ },
      Config.Params.instantiate_eq_some.2 ⟨horderLe, hpolyLt, hseedLt, rfl, rfl⟩, rfl, rfl⟩
  · refine Option.eq_none_iff_forall_ne_some.2 fun P hP => hillegal ?_
    obtain ⟨horderLe, hpolyLt, hseedLt, -, htriple⟩ := Config.Params.instantiate_eq_some.1 hP
    obtain ⟨horder, hpoly, hseed, hmax⟩ :=
      (SsCfg.legal_ofNat_iff horderLe hpolyLt hseedLt).1 (htriple ▸ P.ss_legal)
    exact ⟨horder, horderLe, hpoly, hpolyLt, hseed, hseedLt, hmax⟩

end Sys2Proof
end
